-- ==== Sys2Proof/Word.lean ====
section
/-!
DEFINITION. The widths of 00_scope.md rule R12 (byte 8, word 16, long 32, quad 64), the 23-bit memory address of
20_memory.md rule R90 and the 4-bit register field of 30_encoding.md rule R137.
-/

namespace Sys2Proof

/-- 8 bits (R12). -/
abbrev Byte := BitVec 8

/-- 16 bits (R12): a general register, an instruction word, an offset, a port number. -/
abbrev Word := BitVec 16

/-- 32 bits (R12): the register pair view RR. -/
abbrev Long := BitVec 32

/-- 64 bits (R12): the register quad view RQ. -/
abbrev Quad := BitVec 64

/-- A memory address (R39, R90): the 7-bit segment in bits 22:16, the 16-bit offset in bits 15:0.
On the Z8002 the segment bits of every address the machine forms are zero. -/
abbrev Addr := BitVec 23

/-- A 4-bit register field (R137): which view it names (R, RB, RR, RQ) is the instruction's matter. -/
abbrev Reg := BitVec 4

/-- A 4-bit condition-code field (R160). -/
abbrev CondCode := BitVec 4

end Sys2Proof
end

