-- ==== Sys2Proof/Config.lean ====
section
/-!
DEFINITION. What an implementation fixes (00_scope.md rules R2, R9, R10) and the values the spec leaves free.
The parameters of R10 with a finite choice are one structure of plain data, `Params`, which every state carries and no
step changes (log 1); the ones that are functions, and the values the spec calls `draw` (R15), are opaque constants.
-/

namespace Sys2Proof

/-- R2: the two variants, fixed for the life of the machine. -/
inductive Variant where
  | z8001
  | z8002
  deriving DecidableEq, Repr

/-- R33 `BYTE_REG_MAP`: which byte of R0..R7 a byte-register field names. -/
inductive ByteRegMap where
  | pair
  | zilog
  deriving DecidableEq, Repr

/-- R229 `BYTE_LOAD_FLAGS`: whether a byte load writes Z, S and PV. -/
inductive ByteLoadFlags where
  | zsp
  | none
  deriving DecidableEq, Repr

/-- R314 `TCC_FALSE`: what TCC and TCCB do to bit 0 when the condition is false. -/
inductive TccFalse where
  | clear
  | keep
  deriving DecidableEq, Repr

/-- R510 `EIDI_BIT_MAP`: which operand bit of EI and DI names which interrupt. -/
inductive EidiBitMap where
  | doc
  | zilog
  deriving DecidableEq, Repr

/-- R300 `WORD_LOGIC_PV`: PV after a word or long logical operation. -/
inductive WordLogicPv where
  | parityLowByte
  | unchanged
  deriving DecidableEq, Repr

/-- R322 `BITDYN_BITS`: the width of a dynamic bit number. -/
inductive BitdynBits where
  | five
  | zilog
  deriving DecidableEq, Repr

/-- R502 `LDCTL_RESERVED`: what the reserved control-register codes do. -/
inductive LdctlReserved where
  | nop
  | trap
  deriving DecidableEq, Repr

/-- R292 `DAB_NONBCD`: the rule R292 algorithm for every input (the default), or, for the inputs outside the
rows of rule R291, the total function `Config.dabOther`. -/
inductive DabNonBcd where
  | algorithm
  | other
  deriving DecidableEq, Repr

/-- R720 `CYCLES_SERVICE`, the cost of servicing each cause. RESET has no field: its cost is 0 (R720). -/
structure ServiceCycles where
  epu     : Nat := 0
  trap    : Nat := 0
  syscall : Nat := 0
  segtrap : Nat := 0
  nmi     : Nat := 0
  nvi     : Nat := 0
  vi      : Nat := 0
  deriving DecidableEq, Repr

/-- The parameters of rule R10, with the defaults of its table. `variant` has no default in the spec; the one here is
that of the test vectors (95_test_vectors.md section 0; log 2). -/
structure Params where
  variant       : Variant := .z8002
  byteRegMap    : ByteRegMap := .pair
  byteLoadFlags : ByteLoadFlags := .zsp
  tccFalse      : TccFalse := .clear
  eidiBitMap    : EidiBitMap := .doc
  wordLogicPv   : WordLogicPv := .parityLowByte
  bitdynBits    : BitdynBits := .five
  divZeroTraps  : Bool := false
  z8002SwapR14  : Bool := false
  ldctlReserved : LdctlReserved := .nop
  dabNonBcd     : DabNonBcd := .algorithm
  serviceCycles : ServiceCycles := {}
  deriving DecidableEq, Repr

/-- R90: the two modes of the I/O space. -/
inductive IoMode where
  | normal
  | special
  deriving DecidableEq, Repr

/-- One transaction on the I/O bus (R92, R100): the calls `read_byte`, `read_word`, `write_byte` and `write_word`. -/
inductive IoEvent where
  | readByte (port : Word) (mode : IoMode) (value : Byte)
  | readWord (port : Word) (mode : IoMode) (value : Word)
  | writeByte (port : Word) (value : Byte) (mode : IoMode)
  | writeWord (port : Word) (value : Word) (mode : IoMode)
  deriving DecidableEq, Repr

/-- R720 `CYCLES`: the cost of a dispatch entry, named by its place in spec/opcode_table.json (`Instr.entry`).
The source gives no figure (log 3). -/
opaque Config.cycles : Nat → Nat

/-- The free values of one instruction (R15 `draw`): 128 bits of which the spec fixes none, for each value of the
state's draw counter. Bits 63:0 stand for an undefined result and the higher ones for undefined flags (log 4). -/
opaque Config.draw : Nat → BitVec 128

/-- What the host's I/O bus answers to `read_byte(port, mode)` after the transactions listed (newest first): a total
host function, of which the spec fixes nothing (R103, U18; log 5). -/
opaque Config.ioReadByte : List IoEvent → Word → IoMode → Byte

/-- What the host's I/O bus answers to `read_word(port, mode)` (R103, U18; log 5). -/
opaque Config.ioReadWord : List IoEvent → Word → IoMode → Word

/-- R292: the other value of `DAB_NONBCD`, a total function of (value, C, H, DA) that gives the adjusted byte and
the new C. -/
opaque Config.dabOther : Byte → Bool → Bool → Bool → Byte × Bool

end Sys2Proof
end

