-- ==== Sys2Proof/Syntax.lean ====
section
/-!
DEFINITION. The operand forms of 00_scope.md rule R18 and the instruction set. A constructor of `Instr` is an
operation with its operands; the rows of spec/opcode_table.json that differ in the addressing mode of one operand are
one constructor with that operand's mode (`Source`, `RegMem`, `MemOp`, `LdMem`, `PortOp`), so that a row is a
constructor at one mode: its docstring lists its rows, each with its encoding (a letter is a bit of a field), and the
rule of its meaning (log 6).
-/

namespace Sys2Proof

/-- The address operand of DA and X modes as it stands in the instruction (R143): one offset word in non-segmented
mode; in segmented mode the short form (7-bit segment, 8-bit offset, one word) or the long form (two words). -/
inductive AddrOp where
  | nonseg (off : Word)
  | short (seg : BitVec 7) (off : Byte)
  | long (seg : BitVec 7) (off : Word)
  deriving DecidableEq, Repr

/-- A memory operand in one of the general modes: IR `@Rn`, DA `addr`, X `addr(Rn)`. -/
inductive MemOp where
  | ir (n : Reg)
  | da (ad : AddrOp)
  | x (n : Reg) (ad : AddrOp)
  deriving DecidableEq, Repr

/-- A memory operand of the LD family and of LDA: a general mode, BA `Rn(#disp)` or BX `Rn(Rx)`. -/
inductive LdMem where
  | mem (m : MemOp)
  | ba (n : Reg) (disp : Word)
  | bx (n x : Reg)
  deriving DecidableEq, Repr

/-- An operand in a register or in memory (modes R, IR, DA, X). -/
inductive RegMem where
  | reg (n : Reg)
  | mem (m : MemOp)
  deriving DecidableEq, Repr

/-- A source operand of value type `α`: a register, an immediate or memory (modes R, IM, IR, DA, X). -/
inductive Source (α : Type) where
  | reg (n : Reg)
  | imm (v : α)
  | mem (m : MemOp)
  deriving DecidableEq, Repr

/-- The port operand of IN, INB, OUT and OUTB: `@Rn` or a port number in the instruction. -/
inductive PortOp where
  | ir (n : Reg)
  | da (port : Word)
  deriving DecidableEq, Repr

/-- The instructions of spec/opcode_table.json (R167), in the order of their first rows. -/
inductive Instr where
  /-- `ADDB Rbd,#imm8` (0000 0000 0000 dddd + imm8w);
  `ADDB Rbd,@Rs` (0000 0000 ssss dddd);
  `ADDB Rbd,addr` (0100 0000 0000 dddd + addr);
  `ADDB Rbd,addr(Rx)` (0100 0000 xxxx dddd + addr);
  `ADDB Rbd,Rbs` (1000 0000 ssss dddd);
  R252. -/
  | addb (d : Reg) (src : Source Byte)
  /-- `ADD Rd,#imm16` (0000 0001 0000 dddd + imm16);
  `ADD Rd,@Rs` (0000 0001 ssss dddd);
  `ADD Rd,addr` (0100 0001 0000 dddd + addr);
  `ADD Rd,addr(Rx)` (0100 0001 xxxx dddd + addr);
  `ADD Rd,Rs` (1000 0001 ssss dddd);
  R251. -/
  | add (d : Reg) (src : Source Word)
  /-- `SUBB Rbd,#imm8` (0000 0010 0000 dddd + imm8w);
  `SUBB Rbd,@Rs` (0000 0010 ssss dddd);
  `SUBB Rbd,addr` (0100 0010 0000 dddd + addr);
  `SUBB Rbd,addr(Rx)` (0100 0010 xxxx dddd + addr);
  `SUBB Rbd,Rbs` (1000 0010 ssss dddd);
  R257. -/
  | subb (d : Reg) (src : Source Byte)
  /-- `SUB Rd,#imm16` (0000 0011 0000 dddd + imm16);
  `SUB Rd,@Rs` (0000 0011 ssss dddd);
  `SUB Rd,addr` (0100 0011 0000 dddd + addr);
  `SUB Rd,addr(Rx)` (0100 0011 xxxx dddd + addr);
  `SUB Rd,Rs` (1000 0011 ssss dddd);
  R256. -/
  | sub (d : Reg) (src : Source Word)
  /-- `ORB Rbd,#imm8` (0000 0100 0000 dddd + imm8w);
  `ORB Rbd,@Rs` (0000 0100 ssss dddd);
  `ORB Rbd,addr` (0100 0100 0000 dddd + addr);
  `ORB Rbd,addr(Rx)` (0100 0100 xxxx dddd + addr);
  `ORB Rbd,Rbs` (1000 0100 ssss dddd);
  R304. -/
  | orb (d : Reg) (src : Source Byte)
  /-- `OR Rd,#imm16` (0000 0101 0000 dddd + imm16);
  `OR Rd,@Rs` (0000 0101 ssss dddd);
  `OR Rd,addr` (0100 0101 0000 dddd + addr);
  `OR Rd,addr(Rx)` (0100 0101 xxxx dddd + addr);
  `OR Rd,Rs` (1000 0101 ssss dddd);
  R303. -/
  | or (d : Reg) (src : Source Word)
  /-- `ANDB Rbd,#imm8` (0000 0110 0000 dddd + imm8w);
  `ANDB Rbd,@Rs` (0000 0110 ssss dddd);
  `ANDB Rbd,addr` (0100 0110 0000 dddd + addr);
  `ANDB Rbd,addr(Rx)` (0100 0110 xxxx dddd + addr);
  `ANDB Rbd,Rbs` (1000 0110 ssss dddd);
  R302. -/
  | andb (d : Reg) (src : Source Byte)
  /-- `AND Rd,#imm16` (0000 0111 0000 dddd + imm16);
  `AND Rd,@Rs` (0000 0111 ssss dddd);
  `AND Rd,addr` (0100 0111 0000 dddd + addr);
  `AND Rd,addr(Rx)` (0100 0111 xxxx dddd + addr);
  `AND Rd,Rs` (1000 0111 ssss dddd);
  R301. -/
  | and (d : Reg) (src : Source Word)
  /-- `XORB Rbd,#imm8` (0000 1000 0000 dddd + imm8w);
  `XORB Rbd,@Rs` (0000 1000 ssss dddd);
  `XORB Rbd,addr` (0100 1000 0000 dddd + addr);
  `XORB Rbd,addr(Rx)` (0100 1000 xxxx dddd + addr);
  `XORB Rbd,Rbs` (1000 1000 ssss dddd);
  R306. -/
  | xorb (d : Reg) (src : Source Byte)
  /-- `XOR Rd,#imm16` (0000 1001 0000 dddd + imm16);
  `XOR Rd,@Rs` (0000 1001 ssss dddd);
  `XOR Rd,addr` (0100 1001 0000 dddd + addr);
  `XOR Rd,addr(Rx)` (0100 1001 xxxx dddd + addr);
  `XOR Rd,Rs` (1000 1001 ssss dddd);
  R305. -/
  | xor (d : Reg) (src : Source Word)
  /-- `CPB Rbd,#imm8` (0000 1010 0000 dddd + imm8w);
  `CPB Rbd,@Rs` (0000 1010 ssss dddd);
  `CPB Rbd,addr` (0100 1010 0000 dddd + addr);
  `CPB Rbd,addr(Rx)` (0100 1010 xxxx dddd + addr);
  `CPB Rbd,Rbs` (1000 1010 ssss dddd);
  R263. -/
  | cpb (d : Reg) (src : Source Byte)
  /-- `CP Rd,#imm16` (0000 1011 0000 dddd + imm16);
  `CP Rd,@Rs` (0000 1011 ssss dddd);
  `CP Rd,addr` (0100 1011 0000 dddd + addr);
  `CP Rd,addr(Rx)` (0100 1011 xxxx dddd + addr);
  `CP Rd,Rs` (1000 1011 ssss dddd);
  R261. -/
  | cp (d : Reg) (src : Source Word)
  /-- `CPL RRd,#imm32` (0001 0000 0000 dddd + imm32);
  `CPL RRd,@Rs` (0001 0000 ssss dddd);
  `CPL RRd,addr` (0101 0000 0000 dddd + addr);
  `CPL RRd,addr(Rx)` (0101 0000 xxxx dddd + addr);
  `CPL RRd,RRs` (1001 0000 ssss dddd);
  R265. -/
  | cpl (d : Reg) (src : Source Long)
  /-- `SUBL RRd,#imm32` (0001 0010 0000 dddd + imm32);
  `SUBL RRd,@Rs` (0001 0010 ssss dddd);
  `SUBL RRd,addr` (0101 0010 0000 dddd + addr);
  `SUBL RRd,addr(Rx)` (0101 0010 xxxx dddd + addr);
  `SUBL RRd,RRs` (1001 0010 ssss dddd);
  R258. -/
  | subl (d : Reg) (src : Source Long)
  /-- `LDL RRd,#imm32` (0001 0100 0000 dddd + imm32), R207. -/
  | ldlIM (d : Reg) (imm : Long)
  /-- `LDL RRd,@Rs` (0001 0100 ssss dddd);
  `LDL RRd,addr` (0101 0100 0000 dddd + addr);
  `LDL RRd,addr(Rx)` (0101 0100 xxxx dddd + addr);
  `LDL RRd,Rs(#disp)` (0011 0101 ssss dddd + disp16);
  `LDL RRd,Rs(Rx)` (0111 0101 ssss dddd + 0000 xxxx 0000 0000);
  R207. -/
  | ldlMem (d : Reg) (src : LdMem)
  /-- `LDL RRd,RRs` (1001 0100 ssss dddd), R207. -/
  | ldlR (d s : Reg)
  /-- `ADDL RRd,#imm32` (0001 0110 0000 dddd + imm32);
  `ADDL RRd,@Rs` (0001 0110 ssss dddd);
  `ADDL RRd,addr` (0101 0110 0000 dddd + addr);
  `ADDL RRd,addr(Rx)` (0101 0110 xxxx dddd + addr);
  `ADDL RRd,RRs` (1001 0110 ssss dddd);
  R253. -/
  | addl (d : Reg) (src : Source Long)
  /-- `MULTL RQd,#imm32` (0001 1000 0000 dddd + imm32);
  `MULTL RQd,@Rs` (0001 1000 ssss dddd);
  `MULTL RQd,addr` (0101 1000 0000 dddd + addr);
  `MULTL RQd,addr(Rx)` (0101 1000 xxxx dddd + addr);
  `MULTL RQd,RRs` (1001 1000 ssss dddd);
  R273. -/
  | multl (d : Reg) (src : Source Long)
  /-- `MULT RRd,#imm16` (0001 1001 0000 dddd + imm16);
  `MULT RRd,@Rs` (0001 1001 ssss dddd);
  `MULT RRd,addr` (0101 1001 0000 dddd + addr);
  `MULT RRd,addr(Rx)` (0101 1001 xxxx dddd + addr);
  `MULT RRd,Rs` (1001 1001 ssss dddd);
  R272. -/
  | mult (d : Reg) (src : Source Word)
  /-- `DIVL RQd,#imm32` (0001 1010 0000 dddd + imm32);
  `DIVL RQd,@Rs` (0001 1010 ssss dddd);
  `DIVL RQd,addr` (0101 1010 0000 dddd + addr);
  `DIVL RQd,addr(Rx)` (0101 1010 xxxx dddd + addr);
  `DIVL RQd,RRs` (1001 1010 ssss dddd);
  R281. -/
  | divl (d : Reg) (src : Source Long)
  /-- `DIV RRd,#imm16` (0001 1011 0000 dddd + imm16);
  `DIV RRd,@Rs` (0001 1011 ssss dddd);
  `DIV RRd,addr` (0101 1011 0000 dddd + addr);
  `DIV RRd,addr(Rx)` (0101 1011 xxxx dddd + addr);
  `DIV RRd,Rs` (1001 1011 ssss dddd);
  R280. -/
  | div (d : Reg) (src : Source Word)
  /-- `LDB Rbd,#imm8` (0010 0000 0000 dddd + imm8w), R204. -/
  | ldbIM (d : Reg) (imm : Byte)
  /-- `LDB Rbd,@Rs` (0010 0000 ssss dddd);
  `LDB Rbd,addr` (0110 0000 0000 dddd + addr);
  `LDB Rbd,addr(Rx)` (0110 0000 xxxx dddd + addr);
  `LDB Rbd,Rs(#disp)` (0011 0000 ssss dddd + disp16);
  `LDB Rbd,Rs(Rx)` (0111 0000 ssss dddd + 0000 xxxx 0000 0000);
  R204. -/
  | ldbMem (d : Reg) (src : LdMem)
  /-- `LDB Rbd,Rbs` (1010 0000 ssss dddd), R204. -/
  | ldbR (d s : Reg)
  /-- `LD Rd,#imm16` (0010 0001 0000 dddd + imm16), R201. -/
  | ldIM (d : Reg) (imm : Word)
  /-- `LD Rd,@Rs` (0010 0001 ssss dddd);
  `LD Rd,addr` (0110 0001 0000 dddd + addr);
  `LD Rd,addr(Rx)` (0110 0001 xxxx dddd + addr);
  `LD Rd,Rs(#disp)` (0011 0001 ssss dddd + disp16);
  `LD Rd,Rs(Rx)` (0111 0001 ssss dddd + 0000 xxxx 0000 0000);
  R201. -/
  | ldMem (d : Reg) (src : LdMem)
  /-- `LD Rd,Rs` (1010 0001 ssss dddd), R201. -/
  | ldR (d s : Reg)
  /-- `ADCB Rbd,Rbs` (1011 0100 ssss dddd), R255. -/
  | adcb (d s : Reg)
  /-- `ADC Rd,Rs` (1011 0101 ssss dddd), R254. -/
  | adc (d s : Reg)
  /-- `SBCB Rbd,Rbs` (1011 0110 ssss dddd), R260. -/
  | sbcb (d s : Reg)
  /-- `SBC Rd,Rs` (1011 0111 ssss dddd), R259. -/
  | sbc (d s : Reg)
  /-- `COMB @Rd` (0000 1100 dddd 0000);
  `COMB addr` (0100 1100 0000 0000 + addr);
  `COMB addr(Rx)` (0100 1100 xxxx 0000 + addr);
  `COMB Rbd` (1000 1100 dddd 0000);
  R308. -/
  | comb (dst : RegMem)
  /-- `COM @Rd` (0000 1101 dddd 0000);
  `COM addr` (0100 1101 0000 0000 + addr);
  `COM addr(Rx)` (0100 1101 xxxx 0000 + addr);
  `COM Rd` (1000 1101 dddd 0000);
  R307. -/
  | com (dst : RegMem)
  /-- `CPB @Rd,#imm8` (0000 1100 dddd 0001 + imm8w);
  `CPB addr,#imm8` (0100 1100 0000 0001 + addr + imm8w);
  `CPB addr(Rx),#imm8` (0100 1100 xxxx 0001 + addr + imm8w);
  R264. -/
  | cpbImm (dst : MemOp) (imm : Byte)
  /-- `CP @Rd,#imm16` (0000 1101 dddd 0001 + imm16);
  `CP addr,#imm16` (0100 1101 0000 0001 + addr + imm16);
  `CP addr(Rx),#imm16` (0100 1101 xxxx 0001 + addr + imm16);
  R262. -/
  | cpImm (dst : MemOp) (imm : Word)
  /-- `NEGB @Rd` (0000 1100 dddd 0010);
  `NEGB addr` (0100 1100 0000 0010 + addr);
  `NEGB addr(Rx)` (0100 1100 xxxx 0010 + addr);
  `NEGB Rbd` (1000 1100 dddd 0010);
  R267. -/
  | negb (dst : RegMem)
  /-- `NEG @Rd` (0000 1101 dddd 0010);
  `NEG addr` (0100 1101 0000 0010 + addr);
  `NEG addr(Rx)` (0100 1101 xxxx 0010 + addr);
  `NEG Rd` (1000 1101 dddd 0010);
  R266. -/
  | neg (dst : RegMem)
  /-- `TESTB @Rd` (0000 1100 dddd 0100);
  `TESTB addr` (0100 1100 0000 0100 + addr);
  `TESTB addr(Rx)` (0100 1100 xxxx 0100 + addr);
  `TESTB Rbd` (1000 1100 dddd 0100);
  R310. -/
  | testb (dst : RegMem)
  /-- `TEST @Rd` (0000 1101 dddd 0100);
  `TEST addr` (0100 1101 0000 0100 + addr);
  `TEST addr(Rx)` (0100 1101 xxxx 0100 + addr);
  `TEST Rd` (1000 1101 dddd 0100);
  R309. -/
  | test (dst : RegMem)
  /-- `LDB @Rd,#imm8` (0000 1100 dddd 0101 + imm8w);
  `LDB addr,#imm8` (0100 1100 0000 0101 + addr + imm8w);
  `LDB addr(Rx),#imm8` (0100 1100 xxxx 0101 + addr + imm8w);
  R206. -/
  | ldbImm (dst : MemOp) (imm : Byte)
  /-- `LD @Rd,#imm16` (0000 1101 dddd 0101 + imm16);
  `LD addr,#imm16` (0100 1101 0000 0101 + addr + imm16);
  `LD addr(Rx),#imm16` (0100 1101 xxxx 0101 + addr + imm16);
  R203. -/
  | ldImm (dst : MemOp) (imm : Word)
  /-- `TSETB @Rd` (0000 1100 dddd 0110);
  `TSETB addr` (0100 1100 0000 0110 + addr);
  `TSETB addr(Rx)` (0100 1100 xxxx 0110 + addr);
  `TSETB Rbd` (1000 1100 dddd 0110);
  R313. -/
  | tsetb (dst : RegMem)
  /-- `TSET @Rd` (0000 1101 dddd 0110);
  `TSET addr` (0100 1101 0000 0110 + addr);
  `TSET addr(Rx)` (0100 1101 xxxx 0110 + addr);
  `TSET Rd` (1000 1101 dddd 0110);
  R312. -/
  | tset (dst : RegMem)
  /-- `CLRB @Rd` (0000 1100 dddd 1000);
  `CLRB addr` (0100 1100 0000 1000 + addr);
  `CLRB addr(Rx)` (0100 1100 xxxx 1000 + addr);
  `CLRB Rbd` (1000 1100 dddd 1000);
  R227. -/
  | clrb (dst : RegMem)
  /-- `CLR @Rd` (0000 1101 dddd 1000);
  `CLR addr` (0100 1101 0000 1000 + addr);
  `CLR addr(Rx)` (0100 1101 xxxx 1000 + addr);
  `CLR Rd` (1000 1101 dddd 1000);
  R226. -/
  | clr (dst : RegMem)
  /-- `PUSH @Rd,#imm16` (0000 1101 dddd 1001 + imm16);
  `PUSH @Rd,@Rs` (0001 0011 dddd ssss);
  `PUSH @Rd,addr` (0101 0011 dddd 0000 + addr);
  `PUSH @Rd,addr(Rx)` (0101 0011 dddd xxxx + addr);
  `PUSH @Rd,Rs` (1001 0011 dddd ssss);
  R222. -/
  | push (d : Reg) (src : Source Word)
  /-- `LDCTLB Rbd,FLAGS` (1000 1100 dddd 0001), R505. -/
  | ldctlbRead (d : Reg)
  /-- `LDCTLB FLAGS,Rbs` (1000 1100 ssss 1001), R506. -/
  | ldctlbWrite (s : Reg)
  /-- `SETFLG flags` (1000 1101 ffff 0001), R507. -/
  | setflg (mask : BitVec 4)
  /-- `RESFLG flags` (1000 1101 ffff 0011), R508. -/
  | resflg (mask : BitVec 4)
  /-- `COMFLG flags` (1000 1101 ffff 0101), R509. -/
  | comflg (mask : BitVec 4)
  /-- `NOP` (1000 1101 0000 0111), R515. -/
  | nop
  /-- `TESTL @Rd` (0001 1100 dddd 1000);
  `TESTL addr` (0101 1100 0000 1000 + addr);
  `TESTL addr(Rx)` (0101 1100 xxxx 1000 + addr);
  `TESTL RRd` (1001 1100 dddd 1000);
  R311. -/
  | testl (dst : RegMem)
  /-- `LDM Rd,@Rs,#n` (0001 1100 ssss 0001 + 0000 dddd 0000 nnnn);
  `LDM Rd,addr,#n` (0101 1100 0000 0001 + 0000 dddd 0000 nnnn + addr);
  `LDM Rd,addr(Rx),#n` (0101 1100 xxxx 0001 + 0000 dddd 0000 nnnn + addr);
  R218. -/
  | ldm (d : Reg) (src : MemOp) (n : BitVec 4)
  /-- `LDM @Rd,Rs,#n` (0001 1100 dddd 1001 + 0000 ssss 0000 nnnn);
  `LDM addr,Rs,#n` (0101 1100 0000 1001 + 0000 ssss 0000 nnnn + addr);
  `LDM addr(Rx),Rs,#n` (0101 1100 xxxx 1001 + 0000 ssss 0000 nnnn + addr);
  R219. -/
  | ldmTo (dst : MemOp) (s : Reg) (n : BitVec 4)
  /-- `LDL @Rd,RRs` (0001 1101 dddd ssss);
  `LDL addr,RRs` (0101 1101 0000 ssss + addr);
  `LDL addr(Rx),RRs` (0101 1101 xxxx ssss + addr);
  `LDL Rd(#disp),RRs` (0011 0111 dddd ssss + disp16);
  `LDL Rd(Rx),RRs` (0111 0111 dddd ssss + 0000 xxxx 0000 0000);
  R208. -/
  | ldlTo (dst : LdMem) (s : Reg)
  /-- `JP cc,@Rd` (0001 1110 dddd cccc);
  `JP cc,addr` (0101 1110 0000 cccc + addr);
  `JP cc,addr(Rx)` (0101 1110 xxxx cccc + addr);
  R371. -/
  | jp (c : CondCode) (dst : MemOp)
  /-- `RET cc` (1001 1110 0000 cccc), R375. -/
  | ret (c : CondCode)
  /-- `CALL @Rd` (0001 1111 dddd 0000);
  `CALL addr` (0101 1111 0000 0000 + addr);
  `CALL addr(Rx)` (0101 1111 xxxx 0000 + addr);
  R373. -/
  | call (dst : MemOp)
  /-- `PUSHL @Rd,@Rs` (0001 0001 dddd ssss);
  `PUSHL @Rd,addr` (0101 0001 dddd 0000 + addr);
  `PUSHL @Rd,addr(Rx)` (0101 0001 dddd xxxx + addr);
  `PUSHL @Rd,RRs` (1001 0001 dddd ssss);
  R223. -/
  | pushl (d : Reg) (src : RegMem)
  /-- `POPL @Rd,@Rs` (0001 0101 ssss dddd);
  `POPL addr,@Rs` (0101 0101 ssss 0000 + addr);
  `POPL addr(Rx),@Rs` (0101 0101 ssss xxxx + addr);
  `POPL RRd,@Rs` (1001 0101 ssss dddd);
  R225. -/
  | popl (dst : RegMem) (s : Reg)
  /-- `POP @Rd,@Rs` (0001 0111 ssss dddd);
  `POP addr,@Rs` (0101 0111 ssss 0000 + addr);
  `POP addr(Rx),@Rs` (0101 0111 ssss xxxx + addr);
  `POP Rd,@Rs` (1001 0111 ssss dddd);
  R224. -/
  | pop (dst : RegMem) (s : Reg)
  /-- `RESB @Rd,#b` (0010 0010 dddd bbbb);
  `RESB addr,#b` (0110 0010 0000 bbbb + addr);
  `RESB addr(Rx),#b` (0110 0010 xxxx bbbb + addr);
  `RESB Rbd,#b` (1010 0010 dddd bbbb);
  R321. -/
  | resb (dst : RegMem) (b : BitVec 4)
  /-- `RESB Rbd,Rs` (0010 0010 0000 ssss + 0000 dddd 0000 0000), R328. -/
  | resbDyn (d s : Reg)
  /-- `RES @Rd,#b` (0010 0011 dddd bbbb);
  `RES addr,#b` (0110 0011 0000 bbbb + addr);
  `RES addr(Rx),#b` (0110 0011 xxxx bbbb + addr);
  `RES Rd,#b` (1010 0011 dddd bbbb);
  R320. -/
  | res (dst : RegMem) (b : BitVec 4)
  /-- `RES Rd,Rs` (0010 0011 0000 ssss + 0000 dddd 0000 0000), R327. -/
  | resDyn (d s : Reg)
  /-- `SETB @Rd,#b` (0010 0100 dddd bbbb);
  `SETB addr,#b` (0110 0100 0000 bbbb + addr);
  `SETB addr(Rx),#b` (0110 0100 xxxx bbbb + addr);
  `SETB Rbd,#b` (1010 0100 dddd bbbb);
  R319. -/
  | setb (dst : RegMem) (b : BitVec 4)
  /-- `SETB Rbd,Rs` (0010 0100 0000 ssss + 0000 dddd 0000 0000), R326. -/
  | setbDyn (d s : Reg)
  /-- `SET @Rd,#b` (0010 0101 dddd bbbb);
  `SET addr,#b` (0110 0101 0000 bbbb + addr);
  `SET addr(Rx),#b` (0110 0101 xxxx bbbb + addr);
  `SET Rd,#b` (1010 0101 dddd bbbb);
  R318. -/
  | set (dst : RegMem) (b : BitVec 4)
  /-- `SET Rd,Rs` (0010 0101 0000 ssss + 0000 dddd 0000 0000), R325. -/
  | setDyn (d s : Reg)
  /-- `BITB @Rd,#b` (0010 0110 dddd bbbb);
  `BITB addr,#b` (0110 0110 0000 bbbb + addr);
  `BITB addr(Rx),#b` (0110 0110 xxxx bbbb + addr);
  `BITB Rbd,#b` (1010 0110 dddd bbbb);
  R317. -/
  | bitb (dst : RegMem) (b : BitVec 4)
  /-- `BITB Rbd,Rs` (0010 0110 0000 ssss + 0000 dddd 0000 0000), R324. -/
  | bitbDyn (d s : Reg)
  /-- `BIT @Rd,#b` (0010 0111 dddd bbbb);
  `BIT addr,#b` (0110 0111 0000 bbbb + addr);
  `BIT addr(Rx),#b` (0110 0111 xxxx bbbb + addr);
  `BIT Rd,#b` (1010 0111 dddd bbbb);
  R316. -/
  | bit (dst : RegMem) (b : BitVec 4)
  /-- `BIT Rd,Rs` (0010 0111 0000 ssss + 0000 dddd 0000 0000), R323. -/
  | bitDyn (d s : Reg)
  /-- `INCB @Rd,#n` (0010 1000 dddd nnnn);
  `INCB addr,#n` (0110 1000 0000 nnnn + addr);
  `INCB addr(Rx),#n` (0110 1000 xxxx nnnn + addr);
  `INCB Rbd,#n` (1010 1000 dddd nnnn);
  R269. -/
  | incb (dst : RegMem) (n : BitVec 4)
  /-- `INC @Rd,#n` (0010 1001 dddd nnnn);
  `INC addr,#n` (0110 1001 0000 nnnn + addr);
  `INC addr(Rx),#n` (0110 1001 xxxx nnnn + addr);
  `INC Rd,#n` (1010 1001 dddd nnnn);
  R268. -/
  | inc (dst : RegMem) (n : BitVec 4)
  /-- `DECB @Rd,#n` (0010 1010 dddd nnnn);
  `DECB addr,#n` (0110 1010 0000 nnnn + addr);
  `DECB addr(Rx),#n` (0110 1010 xxxx nnnn + addr);
  `DECB Rbd,#n` (1010 1010 dddd nnnn);
  R271. -/
  | decb (dst : RegMem) (n : BitVec 4)
  /-- `DEC @Rd,#n` (0010 1011 dddd nnnn);
  `DEC addr,#n` (0110 1011 0000 nnnn + addr);
  `DEC addr(Rx),#n` (0110 1011 xxxx nnnn + addr);
  `DEC Rd,#n` (1010 1011 dddd nnnn);
  R270. -/
  | dec (dst : RegMem) (n : BitVec 4)
  /-- `EXB Rbd,@Rs` (0010 1100 ssss dddd);
  `EXB Rbd,addr` (0110 1100 0000 dddd + addr);
  `EXB Rbd,addr(Rx)` (0110 1100 xxxx dddd + addr);
  `EXB Rbd,Rbs` (1010 1100 ssss dddd);
  R221. -/
  | exb (d : Reg) (src : RegMem)
  /-- `EX Rd,@Rs` (0010 1101 ssss dddd);
  `EX Rd,addr` (0110 1101 0000 dddd + addr);
  `EX Rd,addr(Rx)` (0110 1101 xxxx dddd + addr);
  `EX Rd,Rs` (1010 1101 ssss dddd);
  R220. -/
  | ex (d : Reg) (src : RegMem)
  /-- `LDB @Rd,Rbs` (0010 1110 dddd ssss);
  `LDB addr,Rbs` (0110 1110 0000 ssss + addr);
  `LDB addr(Rx),Rbs` (0110 1110 xxxx ssss + addr);
  `LDB Rd(#disp),Rbs` (0011 0010 dddd ssss + disp16);
  `LDB Rd(Rx),Rbs` (0111 0010 dddd ssss + 0000 xxxx 0000 0000);
  R205. -/
  | ldbTo (dst : LdMem) (s : Reg)
  /-- `LD @Rd,Rs` (0010 1111 dddd ssss);
  `LD addr,Rs` (0110 1111 0000 ssss + addr);
  `LD addr(Rx),Rs` (0110 1111 xxxx ssss + addr);
  `LD Rd(#disp),Rs` (0011 0011 dddd ssss + disp16);
  `LD Rd(Rx),Rs` (0111 0011 dddd ssss + 0000 xxxx 0000 0000);
  R202. -/
  | ldTo (dst : LdMem) (s : Reg)
  /-- `TCCB cc,Rbd` (1010 1110 dddd cccc), R315. -/
  | tccb (c : CondCode) (d : Reg)
  /-- `TCC cc,Rd` (1010 1111 dddd cccc), R314. -/
  | tcc (c : CondCode) (d : Reg)
  /-- `LDRB Rbd,rel` (0011 0000 0000 dddd + disp16), R211. -/
  | ldrbLoad (d : Reg) (disp : Word)
  /-- `LDR Rd,rel` (0011 0001 0000 dddd + disp16), R209. -/
  | ldrLoad (d : Reg) (disp : Word)
  /-- `LDRB rel,Rbs` (0011 0010 0000 ssss + disp16), R212. -/
  | ldrbStore (disp : Word) (s : Reg)
  /-- `LDR rel,Rs` (0011 0011 0000 ssss + disp16), R210. -/
  | ldrStore (disp : Word) (s : Reg)
  /-- `LDAR Rd,rel` (0011 0100 0000 dddd + disp16), R216. -/
  | ldar (d : Reg) (disp : Word)
  /-- `LDA Rd,Rs(#disp)` (0011 0100 ssss dddd + disp16);
  `LDA Rd,Rs(Rx)` (0111 0100 ssss dddd + 0000 xxxx 0000 0000);
  `LDA Rd,addr` (0111 0110 0000 dddd + addr);
  `LDA Rd,addr(Rx)` (0111 0110 xxxx dddd + addr);
  R215. -/
  | lda (d : Reg) (src : LdMem)
  /-- `LDRL RRd,rel` (0011 0101 0000 dddd + disp16), R213. -/
  | ldrlLoad (d : Reg) (disp : Word)
  /-- `LDRL rel,RRs` (0011 0111 0000 ssss + disp16), R214. -/
  | ldrlStore (disp : Word) (s : Reg)
  /-- `LDPS @Rs` (0011 1001 ssss 0000);
  `LDPS addr` (0111 1001 0000 0000 + addr);
  `LDPS addr(Rx)` (0111 1001 xxxx 0000 + addr);
  R503. -/
  | ldps (src : MemOp)
  /-- `DAB Rbd` (1011 0000 dddd 0000), R290. -/
  | dab (d : Reg)
  /-- `EXTSB Rd` (1011 0001 dddd 0000), R285. -/
  | extsb (d : Reg)
  /-- `EXTSL RQd` (1011 0001 dddd 0111), R287. -/
  | extsl (d : Reg)
  /-- `EXTS RRd` (1011 0001 dddd 1010), R286. -/
  | exts (d : Reg)
  /-- `RLB Rbd,#1` (1011 0010 dddd 0000);
  `RLB Rbd,#2` (1011 0010 dddd 0010);
  R342. -/
  | rlb (d : Reg) (two : Bool)
  /-- `RL Rd,#1` (1011 0011 dddd 0000);
  `RL Rd,#2` (1011 0011 dddd 0010);
  R341. -/
  | rl (d : Reg) (two : Bool)
  /-- `RRB Rbd,#1` (1011 0010 dddd 0100);
  `RRB Rbd,#2` (1011 0010 dddd 0110);
  R346. -/
  | rrb (d : Reg) (two : Bool)
  /-- `RR Rd,#1` (1011 0011 dddd 0100);
  `RR Rd,#2` (1011 0011 dddd 0110);
  R345. -/
  | rr (d : Reg) (two : Bool)
  /-- `RLCB Rbd,#1` (1011 0010 dddd 1000);
  `RLCB Rbd,#2` (1011 0010 dddd 1010);
  R344. -/
  | rlcb (d : Reg) (two : Bool)
  /-- `RLC Rd,#1` (1011 0011 dddd 1000);
  `RLC Rd,#2` (1011 0011 dddd 1010);
  R343. -/
  | rlc (d : Reg) (two : Bool)
  /-- `RRCB Rbd,#1` (1011 0010 dddd 1100);
  `RRCB Rbd,#2` (1011 0010 dddd 1110);
  R348. -/
  | rrcb (d : Reg) (two : Bool)
  /-- `RRC Rd,#1` (1011 0011 dddd 1100);
  `RRC Rd,#2` (1011 0011 dddd 1110);
  R347. -/
  | rrc (d : Reg) (two : Bool)
  /-- `SLLB Rbd,#b | SRLB Rbd,#b` (1011 0010 dddd 0001 + count16), R353. -/
  | sllb (d : Reg) (count : Word)
  /-- `SLAB Rbd,#b | SRAB Rbd,#b` (1011 0010 dddd 1001 + count16), R350. -/
  | slab (d : Reg) (count : Word)
  /-- `SDLB Rbd,Rs` (1011 0010 dddd 0011 + 0000 ssss 0000 0000), R359. -/
  | sdlb (d s : Reg)
  /-- `SDAB Rbd,Rs` (1011 0010 dddd 1011 + 0000 ssss 0000 0000), R356. -/
  | sdab (d s : Reg)
  /-- `SLL Rd,#b | SRL Rd,#b` (1011 0011 dddd 0001 + count16), R352. -/
  | sll (d : Reg) (count : Word)
  /-- `SLA Rd,#b | SRA Rd,#b` (1011 0011 dddd 1001 + count16), R349. -/
  | sla (d : Reg) (count : Word)
  /-- `SDL Rd,Rs` (1011 0011 dddd 0011 + 0000 ssss 0000 0000), R358. -/
  | sdl (d s : Reg)
  /-- `SDA Rd,Rs` (1011 0011 dddd 1011 + 0000 ssss 0000 0000), R355. -/
  | sda (d s : Reg)
  /-- `SLLL RRd,#b | SRLL RRd,#b` (1011 0011 dddd 0101 + count16), R354. -/
  | slll (d : Reg) (count : Word)
  /-- `SLAL RRd,#b | SRAL RRd,#b` (1011 0011 dddd 1101 + count16), R351. -/
  | slal (d : Reg) (count : Word)
  /-- `SDLL RRd,Rs` (1011 0011 dddd 0111 + 0000 ssss 0000 0000), R360. -/
  | sdll (d s : Reg)
  /-- `SDAL RRd,Rs` (1011 0011 dddd 1111 + 0000 ssss 0000 0000), R357. -/
  | sdal (d s : Reg)
  /-- `TRIB @Rd,@Rs,Rr` (1011 1000 dddd 0000 + 0000 rrrr ssss ----), R425. -/
  | trib (d s r : Reg)
  /-- `TRIRB @Rd,@Rs,Rr` (1011 1000 dddd 0100 + 0000 rrrr ssss ----), R426. -/
  | trirb (d s r : Reg)
  /-- `TRDB @Rd,@Rs,Rr` (1011 1000 dddd 1000 + 0000 rrrr ssss ----), R427. -/
  | trdb (d s r : Reg)
  /-- `TRDRB @Rd,@Rs,Rr` (1011 1000 dddd 1100 + 0000 rrrr ssss ----), R428. -/
  | trdrb (d s r : Reg)
  /-- `TRTIB @Rs1,@Rs2,Rr` (1011 1000 ssss 0010 + 0000 rrrr tttt ----), R429. -/
  | trtib (s t r : Reg)
  /-- `TRTIRB @Rs1,@Rs2,Rr` (1011 1000 ssss 0110 + 0000 rrrr tttt ----), R430. -/
  | trtirb (s t r : Reg)
  /-- `TRTDB @Rs1,@Rs2,Rr` (1011 1000 ssss 1010 + 0000 rrrr tttt ----), R431. -/
  | trtdb (s t r : Reg)
  /-- `TRTDRB @Rs1,@Rs2,Rr` (1011 1000 ssss 1110 + 0000 rrrr tttt ----), R432. -/
  | trtdrb (s t r : Reg)
  /-- `CPIB Rbd,@Rs,Rr,cc` (1011 1010 ssss 0000 + 0000 rrrr dddd cccc), R410. -/
  | cpib (d s r : Reg) (c : CondCode)
  /-- `CPI Rd,@Rs,Rr,cc` (1011 1011 ssss 0000 + 0000 rrrr dddd cccc), R409. -/
  | cpi (d s r : Reg) (c : CondCode)
  /-- `CPIRB Rbd,@Rs,Rr,cc` (1011 1010 ssss 0100 + 0000 rrrr dddd cccc), R412. -/
  | cpirb (d s r : Reg) (c : CondCode)
  /-- `CPIR Rd,@Rs,Rr,cc` (1011 1011 ssss 0100 + 0000 rrrr dddd cccc), R411. -/
  | cpir (d s r : Reg) (c : CondCode)
  /-- `CPDB Rbd,@Rs,Rr,cc` (1011 1010 ssss 1000 + 0000 rrrr dddd cccc), R414. -/
  | cpdb (d s r : Reg) (c : CondCode)
  /-- `CPD Rd,@Rs,Rr,cc` (1011 1011 ssss 1000 + 0000 rrrr dddd cccc), R413. -/
  | cpd (d s r : Reg) (c : CondCode)
  /-- `CPDRB Rbd,@Rs,Rr,cc` (1011 1010 ssss 1100 + 0000 rrrr dddd cccc), R416. -/
  | cpdrb (d s r : Reg) (c : CondCode)
  /-- `CPDR Rd,@Rs,Rr,cc` (1011 1011 ssss 1100 + 0000 rrrr dddd cccc), R415. -/
  | cpdr (d s r : Reg) (c : CondCode)
  /-- `CPSIB @Rd,@Rs,Rr,cc` (1011 1010 ssss 0010 + 0000 rrrr dddd cccc), R418. -/
  | cpsib (d s r : Reg) (c : CondCode)
  /-- `CPSI @Rd,@Rs,Rr,cc` (1011 1011 ssss 0010 + 0000 rrrr dddd cccc), R417. -/
  | cpsi (d s r : Reg) (c : CondCode)
  /-- `CPSIRB @Rd,@Rs,Rr,cc` (1011 1010 ssss 0110 + 0000 rrrr dddd cccc), R420. -/
  | cpsirb (d s r : Reg) (c : CondCode)
  /-- `CPSIR @Rd,@Rs,Rr,cc` (1011 1011 ssss 0110 + 0000 rrrr dddd cccc), R419. -/
  | cpsir (d s r : Reg) (c : CondCode)
  /-- `CPSDB @Rd,@Rs,Rr,cc` (1011 1010 ssss 1010 + 0000 rrrr dddd cccc), R422. -/
  | cpsdb (d s r : Reg) (c : CondCode)
  /-- `CPSD @Rd,@Rs,Rr,cc` (1011 1011 ssss 1010 + 0000 rrrr dddd cccc), R421. -/
  | cpsd (d s r : Reg) (c : CondCode)
  /-- `CPSDRB @Rd,@Rs,Rr,cc` (1011 1010 ssss 1110 + 0000 rrrr dddd cccc), R424. -/
  | cpsdrb (d s r : Reg) (c : CondCode)
  /-- `CPSDR @Rd,@Rs,Rr,cc` (1011 1011 ssss 1110 + 0000 rrrr dddd cccc), R423. -/
  | cpsdr (d s r : Reg) (c : CondCode)
  /-- `LDIB @Rd,@Rs,Rr` (1011 1010 ssss 0001 + 0000 rrrr dddd 1---), R402. -/
  | ldib (d s r : Reg)
  /-- `LDI @Rd,@Rs,Rr` (1011 1011 ssss 0001 + 0000 rrrr dddd 1---), R401. -/
  | ldi (d s r : Reg)
  /-- `LDIRB @Rd,@Rs,Rr` (1011 1010 ssss 0001 + 0000 rrrr dddd 0---), R404. -/
  | ldirb (d s r : Reg)
  /-- `LDIR @Rd,@Rs,Rr` (1011 1011 ssss 0001 + 0000 rrrr dddd 0---), R403. -/
  | ldir (d s r : Reg)
  /-- `LDDB @Rd,@Rs,Rr` (1011 1010 ssss 1001 + 0000 rrrr dddd 1---), R406. -/
  | lddb (d s r : Reg)
  /-- `LDD @Rd,@Rs,Rr` (1011 1011 ssss 1001 + 0000 rrrr dddd 1---), R405. -/
  | ldd (d s r : Reg)
  /-- `LDDRB @Rd,@Rs,Rr` (1011 1010 ssss 1001 + 0000 rrrr dddd 0---), R408. -/
  | lddrb (d s r : Reg)
  /-- `LDDR @Rd,@Rs,Rr` (1011 1011 ssss 1001 + 0000 rrrr dddd 0---), R407. -/
  | lddr (d s r : Reg)
  /-- `RRDB Rbl,Rbs` (1011 1100 llll ssss), R362. -/
  | rrdb (l s : Reg)
  /-- `LDK Rd,#n` (1011 1101 dddd nnnn), R217. -/
  | ldk (d : Reg) (n : BitVec 4)
  /-- `RLDB Rbl,Rbs` (1011 1110 llll ssss), R361. -/
  | rldb (l s : Reg)
  /-- `INI @Rd,@Rs,Rr` (0011 1011 ssss 0000 + 0000 rrrr dddd 1---), R449. -/
  | ini (d s r : Reg)
  /-- `INIB @Rd,@Rs,Rr` (0011 1010 ssss 0000 + 0000 rrrr dddd 1---), R450. -/
  | inib (d s r : Reg)
  /-- `INIR @Rd,@Rs,Rr` (0011 1011 ssss 0000 + 0000 rrrr dddd 0---), R451. -/
  | inir (d s r : Reg)
  /-- `INIRB @Rd,@Rs,Rr` (0011 1010 ssss 0000 + 0000 rrrr dddd 0---), R452. -/
  | inirb (d s r : Reg)
  /-- `IND @Rd,@Rs,Rr` (0011 1011 ssss 1000 + 0000 rrrr dddd 1---), R453. -/
  | ind (d s r : Reg)
  /-- `INDB @Rd,@Rs,Rr` (0011 1010 ssss 1000 + 0000 rrrr dddd 1---), R454. -/
  | indb (d s r : Reg)
  /-- `INDR @Rd,@Rs,Rr` (0011 1011 ssss 1000 + 0000 rrrr dddd 0---), R455. -/
  | indr (d s r : Reg)
  /-- `INDRB @Rd,@Rs,Rr` (0011 1010 ssss 1000 + 0000 rrrr dddd 0---), R456. -/
  | indrb (d s r : Reg)
  /-- `OUTI @Rd,@Rs,Rr` (0011 1011 ssss 0010 + 0000 rrrr dddd 1---), R457. -/
  | outi (d s r : Reg)
  /-- `OUTIB @Rd,@Rs,Rr` (0011 1010 ssss 0010 + 0000 rrrr dddd 1---), R458. -/
  | outib (d s r : Reg)
  /-- `OTIR @Rd,@Rs,Rr` (0011 1011 ssss 0010 + 0000 rrrr dddd 0---), R459. -/
  | otir (d s r : Reg)
  /-- `OTIRB @Rd,@Rs,Rr` (0011 1010 ssss 0010 + 0000 rrrr dddd 0---), R460. -/
  | otirb (d s r : Reg)
  /-- `OUTD @Rd,@Rs,Rr` (0011 1011 ssss 1010 + 0000 rrrr dddd 1---), R461. -/
  | outd (d s r : Reg)
  /-- `OUTDB @Rd,@Rs,Rr` (0011 1010 ssss 1010 + 0000 rrrr dddd 1---), R462. -/
  | outdb (d s r : Reg)
  /-- `OTDR @Rd,@Rs,Rr` (0011 1011 ssss 1010 + 0000 rrrr dddd 0---), R463. -/
  | otdr (d s r : Reg)
  /-- `OTDRB @Rd,@Rs,Rr` (0011 1010 ssss 1010 + 0000 rrrr dddd 0---), R464. -/
  | otdrb (d s r : Reg)
  /-- `SINI @Rd,@Rs,Rr` (0011 1011 ssss 0001 + 0000 rrrr dddd 1---), R465. -/
  | sini (d s r : Reg)
  /-- `SINIB @Rd,@Rs,Rr` (0011 1010 ssss 0001 + 0000 rrrr dddd 1---), R466. -/
  | sinib (d s r : Reg)
  /-- `SINIR @Rd,@Rs,Rr` (0011 1011 ssss 0001 + 0000 rrrr dddd 0---), R467. -/
  | sinir (d s r : Reg)
  /-- `SINIRB @Rd,@Rs,Rr` (0011 1010 ssss 0001 + 0000 rrrr dddd 0---), R468. -/
  | sinirb (d s r : Reg)
  /-- `SIND @Rd,@Rs,Rr` (0011 1011 ssss 1001 + 0000 rrrr dddd 1---), R469. -/
  | sind (d s r : Reg)
  /-- `SINDB @Rd,@Rs,Rr` (0011 1010 ssss 1001 + 0000 rrrr dddd 1---), R470. -/
  | sindb (d s r : Reg)
  /-- `SINDR @Rd,@Rs,Rr` (0011 1011 ssss 1001 + 0000 rrrr dddd 0---), R471. -/
  | sindr (d s r : Reg)
  /-- `SINDRB @Rd,@Rs,Rr` (0011 1010 ssss 1001 + 0000 rrrr dddd 0---), R472. -/
  | sindrb (d s r : Reg)
  /-- `SOUTI @Rd,@Rs,Rr` (0011 1011 ssss 0011 + 0000 rrrr dddd 1---), R473. -/
  | souti (d s r : Reg)
  /-- `SOUTIB @Rd,@Rs,Rr` (0011 1010 ssss 0011 + 0000 rrrr dddd 1---), R474. -/
  | soutib (d s r : Reg)
  /-- `SOTIR @Rd,@Rs,Rr` (0011 1011 ssss 0011 + 0000 rrrr dddd 0---), R475. -/
  | sotir (d s r : Reg)
  /-- `SOTIRB @Rd,@Rs,Rr` (0011 1010 ssss 0011 + 0000 rrrr dddd 0---), R476. -/
  | sotirb (d s r : Reg)
  /-- `SOUTD @Rd,@Rs,Rr` (0011 1011 ssss 1011 + 0000 rrrr dddd 1---), R477. -/
  | soutd (d s r : Reg)
  /-- `SOUTDB @Rd,@Rs,Rr` (0011 1010 ssss 1011 + 0000 rrrr dddd 1---), R478. -/
  | soutdb (d s r : Reg)
  /-- `SOTDR @Rd,@Rs,Rr` (0011 1011 ssss 1011 + 0000 rrrr dddd 0---), R479. -/
  | sotdr (d s r : Reg)
  /-- `SOTDRB @Rd,@Rs,Rr` (0011 1010 ssss 1011 + 0000 rrrr dddd 0---), R480. -/
  | sotdrb (d s r : Reg)
  /-- `IN Rd,port` (0011 1011 dddd 0100 + port16);
  `IN Rd,@Rs` (0011 1101 ssss dddd);
  R441. -/
  | inw (d : Reg) (src : PortOp)
  /-- `INB Rbd,port` (0011 1010 dddd 0100 + port16);
  `INB Rbd,@Rs` (0011 1100 ssss dddd);
  R442. -/
  | inb (d : Reg) (src : PortOp)
  /-- `SIN Rd,port` (0011 1011 dddd 0101 + port16), R445. -/
  | sin (d : Reg) (port : Word)
  /-- `SINB Rbd,port` (0011 1010 dddd 0101 + port16), R446. -/
  | sinb (d : Reg) (port : Word)
  /-- `OUT port,Rs` (0011 1011 ssss 0110 + port16);
  `OUT @Rd,Rs` (0011 1111 dddd ssss);
  R443. -/
  | outw (dst : PortOp) (s : Reg)
  /-- `OUTB port,Rbs` (0011 1010 ssss 0110 + port16);
  `OUTB @Rd,Rbs` (0011 1110 dddd ssss);
  R444. -/
  | outb (dst : PortOp) (s : Reg)
  /-- `SOUT port,Rs` (0011 1011 ssss 0111 + port16), R447. -/
  | sout (port : Word) (s : Reg)
  /-- `SOUTB port,Rbs` (0011 1010 ssss 0111 + port16), R448. -/
  | soutb (port : Word) (s : Reg)
  /-- `HALT` (0111 1010 0000 0000), R513. -/
  | halt
  /-- `IRET` (0111 1011 0000 0000), R514. -/
  | iret
  /-- `MSET` (0111 1011 0000 1000), R520. -/
  | mset
  /-- `MRES` (0111 1011 0000 1001), R521. -/
  | mres
  /-- `MBIT` (0111 1011 0000 1010), R522. -/
  | mbit
  /-- `MREQ Rd` (0111 1011 dddd 1101), R523. -/
  | mreq (d : Reg)
  /-- `DI int` (0111 1100 0000 00ab), R511. -/
  | di (a b : BitVec 1)
  /-- `EI int` (0111 1100 0000 01ab), R512. -/
  | ei (a b : BitVec 1)
  /-- `LDCTL Rd,ctl` (0111 1101 dddd 0kkk), R500. -/
  | ldctlRead (d : Reg) (k : BitVec 3)
  /-- `LDCTL ctl,Rs` (0111 1101 ssss 1kkk), R501. -/
  | ldctlWrite (s : Reg) (k : BitVec 3)
  /-- `SC #imm8` (0111 1111 iiii iiii), R378. -/
  | sc (imm : BitVec 8)
  /-- `(extended instruction 0Exx)` (0000 1110 iiii iiii), R526. -/
  | ext0E (imm : BitVec 8)
  /-- `(extended instruction 0Fxx)` (0000 1111 iiii iiii), R526. -/
  | ext0F (imm : BitVec 8)
  /-- `(extended instruction 4Exx)` (0100 1110 iiii iiii), R526. -/
  | ext4E (imm : BitVec 8)
  /-- `(extended instruction 4Fxx)` (0100 1111 iiii iiii), R526. -/
  | ext4F (imm : BitVec 8)
  /-- `(extended instruction 8Exx)` (1000 1110 iiii iiii), R526. -/
  | ext8E (imm : BitVec 8)
  /-- `(extended instruction 8Fxx)` (1000 1111 iiii iiii), R526. -/
  | ext8F (imm : BitVec 8)
  /-- `LDB Rbd,#imm8` (1100 dddd iiii iiii), R204. -/
  | ldbShort (d : Reg) (imm : Byte)
  /-- `CALR disp12` (1101 pppp pppp pppp), R374. -/
  | calr (disp : BitVec 12)
  /-- `JR cc,disp8` (1110 cccc pppp pppp), R372. -/
  | jr (c : CondCode) (disp : BitVec 8)
  /-- `DBJNZ Rbd,disp7` (1111 dddd 0ppp pppp), R377. -/
  | dbjnz (d : Reg) (disp : BitVec 7)
  /-- `DJNZ Rd,disp7` (1111 dddd 1ppp pppp), R376. -/
  | djnz (d : Reg) (disp : BitVec 7)
  /-- `(any first word no other row matches)` (xxxx xxxx xxxx xxxx), R527. -/
  | undefined (w : Word)
  deriving DecidableEq, Repr

end Sys2Proof
end

