-- ==== Sys2Proof/WellFormed.lean ====
section
/-!
DEFINITION. What makes an instruction encodable (`Instr.wf`), what its register-pair and quad fields must name for it to
have a meaning (`Instr.pairsLegal`), how many extension words it takes and whether it is privileged.
-/

namespace Sys2Proof

/-- The first words that no row of spec/opcode_table.json matches (R163), by high byte `hb` and nibbles `h`, `l`. -/
def undefinedFields (hb : Byte) (h l : BitVec 4) : Bool :=
  if hb == 0x0C then !([0x0, 0x1, 0x2, 0x4, 0x5, 0x6, 0x8].contains l) || h == 0x0
  else if hb == 0x0D then [0x3, 0x7, 0xA, 0xB, 0xC, 0xD, 0xE, 0xF].contains l || h == 0x0
  else if [0x11, 0x13, 0x15, 0x17].contains hb then l == 0x0 || h == 0x0
  else if hb == 0x1C then !([0x1, 0x8, 0x9].contains l) || h == 0x0
  else if [0x1D, 0x1E, 0x28, 0x29, 0x2A, 0x2B, 0x2C, 0x2D, 0x2E, 0x2F, 0x3C, 0x3D, 0x3E, 0x3F, 0x51, 0x53,
      0x55, 0x57, 0x70, 0x71, 0x72, 0x73, 0x74, 0x75, 0x77, 0x91, 0x93, 0x95, 0x97].contains hb then
    h == 0x0
  else if [0x1F, 0x39].contains hb then !([0x0].contains l) || h == 0x0
  else if [0x36, 0x38, 0x78, 0x7E, 0x9D, 0x9F, 0xB9, 0xBF].contains hb then true
  else if [0x3A, 0x3B].contains hb then [0xC, 0xD, 0xE, 0xF].contains l
  else if [0x4C, 0x4D].contains hb then !([0x0, 0x1, 0x2, 0x4, 0x5, 0x6, 0x8].contains l)
  else if hb == 0x5C then !([0x1, 0x8, 0x9].contains l)
  else if [0x5F, 0x79, 0xB0].contains hb then !([0x0].contains l)
  else if hb == 0x7A then !([0x0].contains l) || h != 0x0
  else if hb == 0x7B then
    !([0x0, 0x8, 0x9, 0xA, 0xD].contains l) || ([0x0, 0x8, 0x9, 0xA].contains l && h != 0x0)
  else if hb == 0x7C then [0x8, 0x9, 0xA, 0xB, 0xC, 0xD, 0xE, 0xF].contains l || h != 0x0
  else if hb == 0x8C then !([0x0, 0x1, 0x2, 0x4, 0x6, 0x8, 0x9].contains l)
  else if hb == 0x8D then [0x9, 0xA, 0xB, 0xC, 0xD, 0xE, 0xF].contains l || (l == 0x7 && h != 0x0)
  else if hb == 0x9C then !([0x8].contains l)
  else if hb == 0x9E then h != 0x0
  else if hb == 0xB1 then !([0x0, 0x7, 0xA].contains l)
  else if hb == 0xB2 then [0x5, 0x7, 0xD, 0xF].contains l
  else if hb == 0xB8 then [0x1, 0x3, 0x5, 0x7, 0x9, 0xB, 0xD, 0xF].contains l
  else if [0xBA, 0xBB].contains hb then [0x3, 0x5, 0x7, 0xB, 0xD, 0xF].contains l
  else false

/-- R163: the 7042 undefined first words. -/
def undefinedWord (w : Word) : Bool :=
  undefinedFields (w.extractLsb' 8 8) (w.extractLsb' 4 4) (w.extractLsb' 0 4)

/-- R35: the field names a register pair. -/
def evenReg (n : Reg) : Bool := !n.getLsbD 0

/-- R36: the field names a register quad. -/
def quadReg (n : Reg) : Bool := !n.getLsbD 0 && !n.getLsbD 1

/-- R137, R138: a field that holds an address names a pair in segmented mode and any register outside it. -/
def ptrReg (seg : Bool) (n : Reg) : Bool := !seg || evenReg n

/-- An address operand has the form of the mode (R143): one offset word outside segmented mode, short or long in it. -/
def AddrOp.wf (seg : Bool) : AddrOp → Bool
  | .nonseg _ => !seg
  | .short _ _ => seg
  | .long _ _ => seg

/-- How many extension words the address operand takes (R133). -/
def AddrOp.words : AddrOp → Nat
  | .nonseg _ => 1
  | .short _ _ => 1
  | .long _ _ => 2

/-- A register field of modes IR and X is not 0 (R141): 0 there selects IM and DA. -/
def MemOp.wf (seg : Bool) : MemOp → Bool
  | .ir n => n != 0
  | .da ad => ad.wf seg
  | .x n ad => n != 0 && ad.wf seg

/-- R137: the register of IR mode holds an address. An index register (R144) is a word. -/
def MemOp.pairs (seg : Bool) : MemOp → Bool
  | .ir n => ptrReg seg n
  | .da _ => true
  | .x _ _ => true

/-- The extension words of a memory operand (R133). -/
def MemOp.extWords : MemOp → Nat
  | .ir _ => 0
  | .da ad => ad.words
  | .x _ ad => ad.words

/-- A base register field is not 0 (R141). -/
def LdMem.wf (seg : Bool) : LdMem → Bool
  | .mem m => m.wf seg
  | .ba n _ => n != 0
  | .bx n _ => n != 0

/-- R137: a base register holds an address. -/
def LdMem.pairs (seg : Bool) : LdMem → Bool
  | .mem m => m.pairs seg
  | .ba n _ => ptrReg seg n
  | .bx n _ => ptrReg seg n

/-- The extension words of a memory operand of the LD family; those of BA and BX hold the displacement or the index. -/
def LdMem.extWords : LdMem → Nat
  | .mem m => m.extWords
  | .ba _ _ => 1
  | .bx _ _ => 1

/-- LDA has no IR mode. -/
def LdMem.isIr : LdMem → Bool
  | .mem (.ir _) => true
  | _ => false

/-- The memory operand, if it is one, is well-formed. -/
def RegMem.wf (seg : Bool) : RegMem → Bool
  | .reg _ => true
  | .mem m => m.wf seg

/-- A byte or word operand: the register is any. -/
def RegMem.pairs (seg : Bool) : RegMem → Bool
  | .reg _ => true
  | .mem m => m.pairs seg

/-- A long operand: the register is a pair (R35). -/
def RegMem.pairsL (seg : Bool) : RegMem → Bool
  | .reg n => evenReg n
  | .mem m => m.pairs seg

/-- The extension words of a register or memory operand. -/
def RegMem.extWords : RegMem → Nat
  | .reg _ => 0
  | .mem m => m.extWords

/-- The memory operand, if it is one, is well-formed. -/
def Source.wf {α : Type} (seg : Bool) : Source α → Bool
  | .reg _ => true
  | .imm _ => true
  | .mem m => m.wf seg

/-- A byte or word source: the register is any. -/
def Source.pairs {α : Type} (seg : Bool) : Source α → Bool
  | .reg _ => true
  | .imm _ => true
  | .mem m => m.pairs seg

/-- A long source: the register is a pair (R35). -/
def Source.pairsL {α : Type} (seg : Bool) : Source α → Bool
  | .reg n => evenReg n
  | .imm _ => true
  | .mem m => m.pairs seg

/-- The extension words of a source whose immediate takes `k` words (R132). -/
def Source.extWords {α : Type} (k : Nat) : Source α → Nat
  | .reg _ => 0
  | .imm _ => k
  | .mem m => m.extWords

/-- The port register of the IR form is not 0 (R141). -/
def PortOp.wf : PortOp → Bool
  | .ir n => n != 0
  | .da _ => true

/-- The extension words of a port operand. -/
def PortOp.extWords : PortOp → Nat
  | .ir _ => 0
  | .da _ => 1

/-- An instruction that has an encoding in the mode `seg` (true in segmented mode): each field that the table marks
`nonzero` is not 0 (R141), an address operand has the mode's form (R143), and an undefined opcode word is one that
no other row matches (R163). -/
def Instr.wf (seg : Bool) : Instr → Bool
  | .addb _ src => src.wf seg
  | .add _ src => src.wf seg
  | .subb _ src => src.wf seg
  | .sub _ src => src.wf seg
  | .orb _ src => src.wf seg
  | .or _ src => src.wf seg
  | .andb _ src => src.wf seg
  | .and _ src => src.wf seg
  | .xorb _ src => src.wf seg
  | .xor _ src => src.wf seg
  | .cpb _ src => src.wf seg
  | .cp _ src => src.wf seg
  | .cpl _ src => src.wf seg
  | .subl _ src => src.wf seg
  | .ldlMem _ src => src.wf seg
  | .addl _ src => src.wf seg
  | .multl _ src => src.wf seg
  | .mult _ src => src.wf seg
  | .divl _ src => src.wf seg
  | .div _ src => src.wf seg
  | .ldbMem _ src => src.wf seg
  | .ldMem _ src => src.wf seg
  | .comb dst => dst.wf seg
  | .com dst => dst.wf seg
  | .cpbImm dst _ => dst.wf seg
  | .cpImm dst _ => dst.wf seg
  | .negb dst => dst.wf seg
  | .neg dst => dst.wf seg
  | .testb dst => dst.wf seg
  | .test dst => dst.wf seg
  | .ldbImm dst _ => dst.wf seg
  | .ldImm dst _ => dst.wf seg
  | .tsetb dst => dst.wf seg
  | .tset dst => dst.wf seg
  | .clrb dst => dst.wf seg
  | .clr dst => dst.wf seg
  | .push d src => src.wf seg && d != 0
  | .testl dst => dst.wf seg
  | .ldm _ src _ => src.wf seg
  | .ldmTo dst _ _ => dst.wf seg
  | .ldlTo dst _ => dst.wf seg
  | .jp _ dst => dst.wf seg
  | .call dst => dst.wf seg
  | .pushl d src => src.wf seg && d != 0
  | .popl dst s => dst.wf seg && s != 0
  | .pop dst s => dst.wf seg && s != 0
  | .resb dst _ => dst.wf seg
  | .res dst _ => dst.wf seg
  | .setb dst _ => dst.wf seg
  | .set dst _ => dst.wf seg
  | .bitb dst _ => dst.wf seg
  | .bit dst _ => dst.wf seg
  | .incb dst _ => dst.wf seg
  | .inc dst _ => dst.wf seg
  | .decb dst _ => dst.wf seg
  | .dec dst _ => dst.wf seg
  | .exb _ src => src.wf seg
  | .ex _ src => src.wf seg
  | .ldbTo dst _ => dst.wf seg
  | .ldTo dst _ => dst.wf seg
  | .lda _ src => !src.isIr && src.wf seg
  | .ldps src => src.wf seg
  | .inw _ src => src.wf
  | .inb _ src => src.wf
  | .outw dst _ => dst.wf
  | .outb dst _ => dst.wf
  | .undefined w => undefinedWord w
  | .ldlIM _ _ | .ldlR _ _ | .ldbIM _ _ | .ldbR _ _ | .ldIM _ _ | .ldR _ _ | .adcb _ _ | .adc _ _ | .sbcb _ _
  | .sbc _ _ | .ldctlbRead _ | .ldctlbWrite _ | .setflg _ | .resflg _ | .comflg _ | .nop | .ret _ | .resbDyn _ _
  | .resDyn _ _ | .setbDyn _ _ | .setDyn _ _ | .bitbDyn _ _ | .bitDyn _ _ | .tccb _ _ | .tcc _ _ | .ldrbLoad _ _
  | .ldrLoad _ _ | .ldrbStore _ _ | .ldrStore _ _ | .ldar _ _ | .ldrlLoad _ _ | .ldrlStore _ _ | .dab _ | .extsb _
  | .extsl _ | .exts _ | .rlb _ _ | .rl _ _ | .rrb _ _ | .rr _ _ | .rlcb _ _ | .rlc _ _ | .rrcb _ _ | .rrc _ _
  | .sllb _ _ | .slab _ _ | .sdlb _ _ | .sdab _ _ | .sll _ _ | .sla _ _ | .sdl _ _ | .sda _ _ | .slll _ _
  | .slal _ _ | .sdll _ _ | .sdal _ _ | .trib _ _ _ | .trirb _ _ _ | .trdb _ _ _ | .trdrb _ _ _ | .trtib _ _ _
  | .trtirb _ _ _ | .trtdb _ _ _ | .trtdrb _ _ _ | .cpib _ _ _ _ | .cpi _ _ _ _ | .cpirb _ _ _ _ | .cpir _ _ _ _
  | .cpdb _ _ _ _ | .cpd _ _ _ _ | .cpdrb _ _ _ _ | .cpdr _ _ _ _ | .cpsib _ _ _ _ | .cpsi _ _ _ _ | .cpsirb _ _ _ _
  | .cpsir _ _ _ _ | .cpsdb _ _ _ _ | .cpsd _ _ _ _ | .cpsdrb _ _ _ _ | .cpsdr _ _ _ _ | .ldib _ _ _ | .ldi _ _ _
  | .ldirb _ _ _ | .ldir _ _ _ | .lddb _ _ _ | .ldd _ _ _ | .lddrb _ _ _ | .lddr _ _ _ | .rrdb _ _ | .ldk _ _
  | .rldb _ _ | .ini _ _ _ | .inib _ _ _ | .inir _ _ _ | .inirb _ _ _ | .ind _ _ _ | .indb _ _ _ | .indr _ _ _
  | .indrb _ _ _ | .outi _ _ _ | .outib _ _ _ | .otir _ _ _ | .otirb _ _ _ | .outd _ _ _ | .outdb _ _ _
  | .otdr _ _ _ | .otdrb _ _ _ | .sini _ _ _ | .sinib _ _ _ | .sinir _ _ _ | .sinirb _ _ _ | .sind _ _ _
  | .sindb _ _ _ | .sindr _ _ _ | .sindrb _ _ _ | .souti _ _ _ | .soutib _ _ _ | .sotir _ _ _ | .sotirb _ _ _
  | .soutd _ _ _ | .soutdb _ _ _ | .sotdr _ _ _ | .sotdrb _ _ _ | .sin _ _ | .sinb _ _ | .sout _ _ | .soutb _ _
  | .halt | .iret | .mset | .mres | .mbit | .mreq _ | .di _ _ | .ei _ _ | .ldctlRead _ _ | .ldctlWrite _ _ | .sc _
  | .ext0E _ | .ext0F _ | .ext4E _ | .ext4F _ | .ext8E _ | .ext8F _ | .ldbShort _ _ | .calr _ | .jr _ _ | .dbjnz _ _
  | .djnz _ _ => true

/-- R35, R36, R137, R138: every register-pair field is even and every quad field a multiple of 4; in segmented mode
(`seg`) the pointer, base and stack-pointer fields, and the destination of LDA and LDAR, name pairs too. -/
def Instr.pairsLegal (seg : Bool) : Instr → Bool
  | .addb _ src => src.pairs seg
  | .add _ src => src.pairs seg
  | .subb _ src => src.pairs seg
  | .sub _ src => src.pairs seg
  | .orb _ src => src.pairs seg
  | .or _ src => src.pairs seg
  | .andb _ src => src.pairs seg
  | .and _ src => src.pairs seg
  | .xorb _ src => src.pairs seg
  | .xor _ src => src.pairs seg
  | .cpb _ src => src.pairs seg
  | .cp _ src => src.pairs seg
  | .cpl d src => src.pairsL seg && evenReg d
  | .subl d src => src.pairsL seg && evenReg d
  | .ldlIM d _ => evenReg d
  | .ldlMem d src => src.pairs seg && evenReg d
  | .ldlR d s => evenReg d && evenReg s
  | .addl d src => src.pairsL seg && evenReg d
  | .multl d src => src.pairsL seg && quadReg d
  | .mult d src => src.pairs seg && evenReg d
  | .divl d src => src.pairsL seg && quadReg d
  | .div d src => src.pairs seg && evenReg d
  | .ldbMem _ src => src.pairs seg
  | .ldMem _ src => src.pairs seg
  | .comb dst => dst.pairs seg
  | .com dst => dst.pairs seg
  | .cpbImm dst _ => dst.pairs seg
  | .cpImm dst _ => dst.pairs seg
  | .negb dst => dst.pairs seg
  | .neg dst => dst.pairs seg
  | .testb dst => dst.pairs seg
  | .test dst => dst.pairs seg
  | .ldbImm dst _ => dst.pairs seg
  | .ldImm dst _ => dst.pairs seg
  | .tsetb dst => dst.pairs seg
  | .tset dst => dst.pairs seg
  | .clrb dst => dst.pairs seg
  | .clr dst => dst.pairs seg
  | .push d src => src.pairs seg && ptrReg seg d
  | .testl dst => dst.pairsL seg
  | .ldm _ src _ => src.pairs seg
  | .ldmTo dst _ _ => dst.pairs seg
  | .ldlTo dst s => dst.pairs seg && evenReg s
  | .jp _ dst => dst.pairs seg
  | .call dst => dst.pairs seg
  | .pushl d src => src.pairsL seg && ptrReg seg d
  | .popl dst s => dst.pairsL seg && ptrReg seg s
  | .pop dst s => dst.pairs seg && ptrReg seg s
  | .resb dst _ => dst.pairs seg
  | .res dst _ => dst.pairs seg
  | .setb dst _ => dst.pairs seg
  | .set dst _ => dst.pairs seg
  | .bitb dst _ => dst.pairs seg
  | .bit dst _ => dst.pairs seg
  | .incb dst _ => dst.pairs seg
  | .inc dst _ => dst.pairs seg
  | .decb dst _ => dst.pairs seg
  | .dec dst _ => dst.pairs seg
  | .exb _ src => src.pairs seg
  | .ex _ src => src.pairs seg
  | .ldbTo dst _ => dst.pairs seg
  | .ldTo dst _ => dst.pairs seg
  | .ldar d _ => ptrReg seg d
  | .lda d src => src.pairs seg && ptrReg seg d
  | .ldrlLoad d _ => evenReg d
  | .ldrlStore _ s => evenReg s
  | .ldps src => src.pairs seg
  | .extsl d => quadReg d
  | .exts d => evenReg d
  | .slll d _ => evenReg d
  | .slal d _ => evenReg d
  | .sdll d _ => evenReg d
  | .sdal d _ => evenReg d
  | .trib d s _ => ptrReg seg d && ptrReg seg s
  | .trirb d s _ => ptrReg seg d && ptrReg seg s
  | .trdb d s _ => ptrReg seg d && ptrReg seg s
  | .trdrb d s _ => ptrReg seg d && ptrReg seg s
  | .trtib s t _ => ptrReg seg s && ptrReg seg t
  | .trtirb s t _ => ptrReg seg s && ptrReg seg t
  | .trtdb s t _ => ptrReg seg s && ptrReg seg t
  | .trtdrb s t _ => ptrReg seg s && ptrReg seg t
  | .cpib _ s _ _ => ptrReg seg s
  | .cpi _ s _ _ => ptrReg seg s
  | .cpirb _ s _ _ => ptrReg seg s
  | .cpir _ s _ _ => ptrReg seg s
  | .cpdb _ s _ _ => ptrReg seg s
  | .cpd _ s _ _ => ptrReg seg s
  | .cpdrb _ s _ _ => ptrReg seg s
  | .cpdr _ s _ _ => ptrReg seg s
  | .cpsib d s _ _ => ptrReg seg d && ptrReg seg s
  | .cpsi d s _ _ => ptrReg seg d && ptrReg seg s
  | .cpsirb d s _ _ => ptrReg seg d && ptrReg seg s
  | .cpsir d s _ _ => ptrReg seg d && ptrReg seg s
  | .cpsdb d s _ _ => ptrReg seg d && ptrReg seg s
  | .cpsd d s _ _ => ptrReg seg d && ptrReg seg s
  | .cpsdrb d s _ _ => ptrReg seg d && ptrReg seg s
  | .cpsdr d s _ _ => ptrReg seg d && ptrReg seg s
  | .ldib d s _ => ptrReg seg d && ptrReg seg s
  | .ldi d s _ => ptrReg seg d && ptrReg seg s
  | .ldirb d s _ => ptrReg seg d && ptrReg seg s
  | .ldir d s _ => ptrReg seg d && ptrReg seg s
  | .lddb d s _ => ptrReg seg d && ptrReg seg s
  | .ldd d s _ => ptrReg seg d && ptrReg seg s
  | .lddrb d s _ => ptrReg seg d && ptrReg seg s
  | .lddr d s _ => ptrReg seg d && ptrReg seg s
  | .ini d _ _ => ptrReg seg d
  | .inib d _ _ => ptrReg seg d
  | .inir d _ _ => ptrReg seg d
  | .inirb d _ _ => ptrReg seg d
  | .ind d _ _ => ptrReg seg d
  | .indb d _ _ => ptrReg seg d
  | .indr d _ _ => ptrReg seg d
  | .indrb d _ _ => ptrReg seg d
  | .outi _ s _ => ptrReg seg s
  | .outib _ s _ => ptrReg seg s
  | .otir _ s _ => ptrReg seg s
  | .otirb _ s _ => ptrReg seg s
  | .outd _ s _ => ptrReg seg s
  | .outdb _ s _ => ptrReg seg s
  | .otdr _ s _ => ptrReg seg s
  | .otdrb _ s _ => ptrReg seg s
  | .sini d _ _ => ptrReg seg d
  | .sinib d _ _ => ptrReg seg d
  | .sinir d _ _ => ptrReg seg d
  | .sinirb d _ _ => ptrReg seg d
  | .sind d _ _ => ptrReg seg d
  | .sindb d _ _ => ptrReg seg d
  | .sindr d _ _ => ptrReg seg d
  | .sindrb d _ _ => ptrReg seg d
  | .souti _ s _ => ptrReg seg s
  | .soutib _ s _ => ptrReg seg s
  | .sotir _ s _ => ptrReg seg s
  | .sotirb _ s _ => ptrReg seg s
  | .soutd _ s _ => ptrReg seg s
  | .soutdb _ s _ => ptrReg seg s
  | .sotdr _ s _ => ptrReg seg s
  | .sotdrb _ s _ => ptrReg seg s
  | .ldbIM _ _ | .ldbR _ _ | .ldIM _ _ | .ldR _ _ | .adcb _ _ | .adc _ _ | .sbcb _ _ | .sbc _ _ | .ldctlbRead _
  | .ldctlbWrite _ | .setflg _ | .resflg _ | .comflg _ | .nop | .ret _ | .resbDyn _ _ | .resDyn _ _ | .setbDyn _ _
  | .setDyn _ _ | .bitbDyn _ _ | .bitDyn _ _ | .tccb _ _ | .tcc _ _ | .ldrbLoad _ _ | .ldrLoad _ _ | .ldrbStore _ _
  | .ldrStore _ _ | .dab _ | .extsb _ | .rlb _ _ | .rl _ _ | .rrb _ _ | .rr _ _ | .rlcb _ _ | .rlc _ _ | .rrcb _ _
  | .rrc _ _ | .sllb _ _ | .slab _ _ | .sdlb _ _ | .sdab _ _ | .sll _ _ | .sla _ _ | .sdl _ _ | .sda _ _ | .rrdb _ _
  | .ldk _ _ | .rldb _ _ | .inw _ _ | .inb _ _ | .sin _ _ | .sinb _ _ | .outw _ _ | .outb _ _ | .sout _ _
  | .soutb _ _ | .halt | .iret | .mset | .mres | .mbit | .mreq _ | .di _ _ | .ei _ _ | .ldctlRead _ _
  | .ldctlWrite _ _ | .sc _ | .ext0E _ | .ext0F _ | .ext4E _ | .ext4F _ | .ext8E _ | .ext8F _ | .ldbShort _ _
  | .calr _ | .jr _ _ | .dbjnz _ _ | .djnz _ _ | .undefined _ => true

/-- R133: how many extension words follow the opcode word. -/
def Instr.extWords : Instr → Nat
  | .addb _ src => src.extWords 1
  | .add _ src => src.extWords 1
  | .subb _ src => src.extWords 1
  | .sub _ src => src.extWords 1
  | .orb _ src => src.extWords 1
  | .or _ src => src.extWords 1
  | .andb _ src => src.extWords 1
  | .and _ src => src.extWords 1
  | .xorb _ src => src.extWords 1
  | .xor _ src => src.extWords 1
  | .cpb _ src => src.extWords 1
  | .cp _ src => src.extWords 1
  | .cpl _ src => src.extWords 2
  | .subl _ src => src.extWords 2
  | .ldlMem _ src => src.extWords
  | .addl _ src => src.extWords 2
  | .multl _ src => src.extWords 2
  | .mult _ src => src.extWords 1
  | .divl _ src => src.extWords 2
  | .div _ src => src.extWords 1
  | .ldbMem _ src => src.extWords
  | .ldMem _ src => src.extWords
  | .comb dst => dst.extWords
  | .com dst => dst.extWords
  | .cpbImm dst _ => dst.extWords + 1
  | .cpImm dst _ => dst.extWords + 1
  | .negb dst => dst.extWords
  | .neg dst => dst.extWords
  | .testb dst => dst.extWords
  | .test dst => dst.extWords
  | .ldbImm dst _ => dst.extWords + 1
  | .ldImm dst _ => dst.extWords + 1
  | .tsetb dst => dst.extWords
  | .tset dst => dst.extWords
  | .clrb dst => dst.extWords
  | .clr dst => dst.extWords
  | .push _ src => src.extWords 1
  | .testl dst => dst.extWords
  | .ldm _ src _ => src.extWords + 1
  | .ldmTo dst _ _ => dst.extWords + 1
  | .ldlTo dst _ => dst.extWords
  | .jp _ dst => dst.extWords
  | .call dst => dst.extWords
  | .pushl _ src => src.extWords
  | .popl dst _ => dst.extWords
  | .pop dst _ => dst.extWords
  | .resb dst _ => dst.extWords
  | .res dst _ => dst.extWords
  | .setb dst _ => dst.extWords
  | .set dst _ => dst.extWords
  | .bitb dst _ => dst.extWords
  | .bit dst _ => dst.extWords
  | .incb dst _ => dst.extWords
  | .inc dst _ => dst.extWords
  | .decb dst _ => dst.extWords
  | .dec dst _ => dst.extWords
  | .exb _ src => src.extWords
  | .ex _ src => src.extWords
  | .ldbTo dst _ => dst.extWords
  | .ldTo dst _ => dst.extWords
  | .lda _ src => src.extWords
  | .ldps src => src.extWords
  | .inw _ src => src.extWords
  | .inb _ src => src.extWords
  | .outw dst _ => dst.extWords
  | .outb dst _ => dst.extWords
  | .ldlR _ _ | .ldbR _ _ | .ldR _ _ | .adcb _ _ | .adc _ _ | .sbcb _ _ | .sbc _ _ | .ldctlbRead _ | .ldctlbWrite _
  | .setflg _ | .resflg _ | .comflg _ | .nop | .ret _ | .tccb _ _ | .tcc _ _ | .dab _ | .extsb _ | .extsl _
  | .exts _ | .rlb _ _ | .rl _ _ | .rrb _ _ | .rr _ _ | .rlcb _ _ | .rlc _ _ | .rrcb _ _ | .rrc _ _ | .rrdb _ _
  | .ldk _ _ | .rldb _ _ | .halt | .iret | .mset | .mres | .mbit | .mreq _ | .di _ _ | .ei _ _ | .ldctlRead _ _
  | .ldctlWrite _ _ | .sc _ | .ext0E _ | .ext0F _ | .ext4E _ | .ext4F _ | .ext8E _ | .ext8F _ | .ldbShort _ _
  | .calr _ | .jr _ _ | .dbjnz _ _ | .djnz _ _ | .undefined _ => 0
  | .ldbIM _ _ | .ldIM _ _ | .resbDyn _ _ | .resDyn _ _ | .setbDyn _ _ | .setDyn _ _ | .bitbDyn _ _ | .bitDyn _ _
  | .ldrbLoad _ _ | .ldrLoad _ _ | .ldrbStore _ _ | .ldrStore _ _ | .ldar _ _ | .ldrlLoad _ _ | .ldrlStore _ _
  | .sllb _ _ | .slab _ _ | .sdlb _ _ | .sdab _ _ | .sll _ _ | .sla _ _ | .sdl _ _ | .sda _ _ | .slll _ _
  | .slal _ _ | .sdll _ _ | .sdal _ _ | .trib _ _ _ | .trirb _ _ _ | .trdb _ _ _ | .trdrb _ _ _ | .trtib _ _ _
  | .trtirb _ _ _ | .trtdb _ _ _ | .trtdrb _ _ _ | .cpib _ _ _ _ | .cpi _ _ _ _ | .cpirb _ _ _ _ | .cpir _ _ _ _
  | .cpdb _ _ _ _ | .cpd _ _ _ _ | .cpdrb _ _ _ _ | .cpdr _ _ _ _ | .cpsib _ _ _ _ | .cpsi _ _ _ _ | .cpsirb _ _ _ _
  | .cpsir _ _ _ _ | .cpsdb _ _ _ _ | .cpsd _ _ _ _ | .cpsdrb _ _ _ _ | .cpsdr _ _ _ _ | .ldib _ _ _ | .ldi _ _ _
  | .ldirb _ _ _ | .ldir _ _ _ | .lddb _ _ _ | .ldd _ _ _ | .lddrb _ _ _ | .lddr _ _ _ | .ini _ _ _ | .inib _ _ _
  | .inir _ _ _ | .inirb _ _ _ | .ind _ _ _ | .indb _ _ _ | .indr _ _ _ | .indrb _ _ _ | .outi _ _ _ | .outib _ _ _
  | .otir _ _ _ | .otirb _ _ _ | .outd _ _ _ | .outdb _ _ _ | .otdr _ _ _ | .otdrb _ _ _ | .sini _ _ _
  | .sinib _ _ _ | .sinir _ _ _ | .sinirb _ _ _ | .sind _ _ _ | .sindb _ _ _ | .sindr _ _ _ | .sindrb _ _ _
  | .souti _ _ _ | .soutib _ _ _ | .sotir _ _ _ | .sotirb _ _ _ | .soutd _ _ _ | .soutdb _ _ _ | .sotdr _ _ _
  | .sotdrb _ _ _ | .sin _ _ | .sinb _ _ | .sout _ _ | .soutb _ _ => 1
  | .ldlIM _ _ => 2

/-- R530: the privileged instructions. -/
def Instr.privileged : Instr → Bool
  | .ldps _ | .ini _ _ _ | .inib _ _ _ | .inir _ _ _ | .inirb _ _ _ | .ind _ _ _ | .indb _ _ _ | .indr _ _ _
  | .indrb _ _ _ | .outi _ _ _ | .outib _ _ _ | .otir _ _ _ | .otirb _ _ _ | .outd _ _ _ | .outdb _ _ _
  | .otdr _ _ _ | .otdrb _ _ _ | .sini _ _ _ | .sinib _ _ _ | .sinir _ _ _ | .sinirb _ _ _ | .sind _ _ _
  | .sindb _ _ _ | .sindr _ _ _ | .sindrb _ _ _ | .souti _ _ _ | .soutib _ _ _ | .sotir _ _ _ | .sotirb _ _ _
  | .soutd _ _ _ | .soutdb _ _ _ | .sotdr _ _ _ | .sotdrb _ _ _ | .inw _ _ | .inb _ _ | .sin _ _ | .sinb _ _
  | .outw _ _ | .outb _ _ | .sout _ _ | .soutb _ _ | .halt | .iret | .mset | .mres | .mbit | .mreq _ | .di _ _
  | .ei _ _ | .ldctlRead _ _ | .ldctlWrite _ _ => true
  | .addb _ _ | .add _ _ | .subb _ _ | .sub _ _ | .orb _ _ | .or _ _ | .andb _ _ | .and _ _ | .xorb _ _ | .xor _ _
  | .cpb _ _ | .cp _ _ | .cpl _ _ | .subl _ _ | .ldlIM _ _ | .ldlMem _ _ | .ldlR _ _ | .addl _ _ | .multl _ _
  | .mult _ _ | .divl _ _ | .div _ _ | .ldbIM _ _ | .ldbMem _ _ | .ldbR _ _ | .ldIM _ _ | .ldMem _ _ | .ldR _ _
  | .adcb _ _ | .adc _ _ | .sbcb _ _ | .sbc _ _ | .comb _ | .com _ | .cpbImm _ _ | .cpImm _ _ | .negb _ | .neg _
  | .testb _ | .test _ | .ldbImm _ _ | .ldImm _ _ | .tsetb _ | .tset _ | .clrb _ | .clr _ | .push _ _
  | .ldctlbRead _ | .ldctlbWrite _ | .setflg _ | .resflg _ | .comflg _ | .nop | .testl _ | .ldm _ _ _ | .ldmTo _ _ _
  | .ldlTo _ _ | .jp _ _ | .ret _ | .call _ | .pushl _ _ | .popl _ _ | .pop _ _ | .resb _ _ | .resbDyn _ _
  | .res _ _ | .resDyn _ _ | .setb _ _ | .setbDyn _ _ | .set _ _ | .setDyn _ _ | .bitb _ _ | .bitbDyn _ _ | .bit _ _
  | .bitDyn _ _ | .incb _ _ | .inc _ _ | .decb _ _ | .dec _ _ | .exb _ _ | .ex _ _ | .ldbTo _ _ | .ldTo _ _
  | .tccb _ _ | .tcc _ _ | .ldrbLoad _ _ | .ldrLoad _ _ | .ldrbStore _ _ | .ldrStore _ _ | .ldar _ _ | .lda _ _
  | .ldrlLoad _ _ | .ldrlStore _ _ | .dab _ | .extsb _ | .extsl _ | .exts _ | .rlb _ _ | .rl _ _ | .rrb _ _
  | .rr _ _ | .rlcb _ _ | .rlc _ _ | .rrcb _ _ | .rrc _ _ | .sllb _ _ | .slab _ _ | .sdlb _ _ | .sdab _ _ | .sll _ _
  | .sla _ _ | .sdl _ _ | .sda _ _ | .slll _ _ | .slal _ _ | .sdll _ _ | .sdal _ _ | .trib _ _ _ | .trirb _ _ _
  | .trdb _ _ _ | .trdrb _ _ _ | .trtib _ _ _ | .trtirb _ _ _ | .trtdb _ _ _ | .trtdrb _ _ _ | .cpib _ _ _ _
  | .cpi _ _ _ _ | .cpirb _ _ _ _ | .cpir _ _ _ _ | .cpdb _ _ _ _ | .cpd _ _ _ _ | .cpdrb _ _ _ _ | .cpdr _ _ _ _
  | .cpsib _ _ _ _ | .cpsi _ _ _ _ | .cpsirb _ _ _ _ | .cpsir _ _ _ _ | .cpsdb _ _ _ _ | .cpsd _ _ _ _
  | .cpsdrb _ _ _ _ | .cpsdr _ _ _ _ | .ldib _ _ _ | .ldi _ _ _ | .ldirb _ _ _ | .ldir _ _ _ | .lddb _ _ _
  | .ldd _ _ _ | .lddrb _ _ _ | .lddr _ _ _ | .rrdb _ _ | .ldk _ _ | .rldb _ _ | .sc _ | .ext0E _ | .ext0F _
  | .ext4E _ | .ext4F _ | .ext8E _ | .ext8F _ | .ldbShort _ _ | .calr _ | .jr _ _ | .dbjnz _ _ | .djnz _ _
  | .undefined _ => false

end Sys2Proof
end

