-- ==== Sys2Proof/Decode.lean ====
section
/-!
DEFINITION. The decoder, total on the four words an instruction can have and on any list of bytes, and after it the
encoder. Both are written from spec/opcode_table.json (30_encoding.md rules R132, R135, R141, R143, R167): the opcode
word is taken apart into its four nibbles `a b h l` (bits 15:12, 11:8, 7:4, 3:0), and `decodePage<a>` chooses the row.
-/

namespace Sys2Proof

/-- Nibble `i` of a word, counted from the least significant one. -/
def nib (w : Word) (i : Nat) : BitVec 4 := w.extractLsb' (4 * i) 4

/-- R132 `imm8w`: a byte immediate is bits 7:0 of its word; bits 15:8 are ignored. -/
def lowByte (w : Word) : Byte := w.extractLsb' 0 8

/-- R143: the address operand whose first word is `w` and whose second, in the long form, is `w'`. -/
def addrOp (seg : Bool) (w w' : Word) : AddrOp :=
  if seg then
    if w.getLsbD 15 then .long (w.extractLsb' 8 7) w'
    else .short (w.extractLsb' 8 7) (w.extractLsb' 0 8)
  else .nonseg w

/-- R132: the word after an address operand whose first word is `w`, of which `w1` and `w2` are the next two. -/
def afterAddr (seg : Bool) (w w1 w2 : Word) : Word :=
  if seg && w.getLsbD 15 then w2 else w1

/-- The rows whose first nibble is 0. -/
def decodePage0 (_seg : Bool) (b h l : BitVec 4) (w0 w1 _w2 _w3 : Word) : Instr :=
  if b = 0x0 then
    if h = 0x0 then .addb l (.imm (lowByte w1)) else .addb l (.mem (.ir h))
  else if b = 0x1 then
    if h = 0x0 then .add l (.imm w1) else .add l (.mem (.ir h))
  else if b = 0x2 then
    if h = 0x0 then .subb l (.imm (lowByte w1)) else .subb l (.mem (.ir h))
  else if b = 0x3 then
    if h = 0x0 then .sub l (.imm w1) else .sub l (.mem (.ir h))
  else if b = 0x4 then
    if h = 0x0 then .orb l (.imm (lowByte w1)) else .orb l (.mem (.ir h))
  else if b = 0x5 then
    if h = 0x0 then .or l (.imm w1) else .or l (.mem (.ir h))
  else if b = 0x6 then
    if h = 0x0 then .andb l (.imm (lowByte w1)) else .andb l (.mem (.ir h))
  else if b = 0x7 then
    if h = 0x0 then .and l (.imm w1) else .and l (.mem (.ir h))
  else if b = 0x8 then
    if h = 0x0 then .xorb l (.imm (lowByte w1)) else .xorb l (.mem (.ir h))
  else if b = 0x9 then
    if h = 0x0 then .xor l (.imm w1) else .xor l (.mem (.ir h))
  else if b = 0xA then
    if h = 0x0 then .cpb l (.imm (lowByte w1)) else .cpb l (.mem (.ir h))
  else if b = 0xB then
    if h = 0x0 then .cp l (.imm w1) else .cp l (.mem (.ir h))
  else if b = 0xC then
    if l = 0x0 then (if h = 0x0 then .undefined w0 else .comb (.mem (.ir h)))
    else if l = 0x1 then (if h = 0x0 then .undefined w0 else .cpbImm (.ir h) (lowByte w1))
    else if l = 0x2 then (if h = 0x0 then .undefined w0 else .negb (.mem (.ir h)))
    else if l = 0x4 then (if h = 0x0 then .undefined w0 else .testb (.mem (.ir h)))
    else if l = 0x5 then (if h = 0x0 then .undefined w0 else .ldbImm (.ir h) (lowByte w1))
    else if l = 0x6 then (if h = 0x0 then .undefined w0 else .tsetb (.mem (.ir h)))
    else if l = 0x8 then (if h = 0x0 then .undefined w0 else .clrb (.mem (.ir h)))
    else .undefined w0
  else if b = 0xD then
    if l = 0x0 then (if h = 0x0 then .undefined w0 else .com (.mem (.ir h)))
    else if l = 0x1 then (if h = 0x0 then .undefined w0 else .cpImm (.ir h) w1)
    else if l = 0x2 then (if h = 0x0 then .undefined w0 else .neg (.mem (.ir h)))
    else if l = 0x4 then (if h = 0x0 then .undefined w0 else .test (.mem (.ir h)))
    else if l = 0x5 then (if h = 0x0 then .undefined w0 else .ldImm (.ir h) w1)
    else if l = 0x6 then (if h = 0x0 then .undefined w0 else .tset (.mem (.ir h)))
    else if l = 0x8 then (if h = 0x0 then .undefined w0 else .clr (.mem (.ir h)))
    else if l = 0x9 then (if h = 0x0 then .undefined w0 else .push h (.imm w1))
    else .undefined w0
  else if b = 0xE then
    .ext0E (h ++ l)
  else if b = 0xF then
    .ext0F (h ++ l)
  else .undefined w0

/-- The rows whose first nibble is 1. -/
def decodePage1 (_seg : Bool) (b h l : BitVec 4) (w0 w1 w2 _w3 : Word) : Instr :=
  if b = 0x0 then
    if h = 0x0 then .cpl l (.imm (w1 ++ w2)) else .cpl l (.mem (.ir h))
  else if b = 0x1 then
    if h = 0x0 then .undefined w0 else if l = 0x0 then .undefined w0 else .pushl h (.mem (.ir l))
  else if b = 0x2 then
    if h = 0x0 then .subl l (.imm (w1 ++ w2)) else .subl l (.mem (.ir h))
  else if b = 0x3 then
    if h = 0x0 then .undefined w0 else if l = 0x0 then .undefined w0 else .push h (.mem (.ir l))
  else if b = 0x4 then
    if h = 0x0 then .ldlIM l (w1 ++ w2) else .ldlMem l (.mem (.ir h))
  else if b = 0x5 then
    if h = 0x0 then .undefined w0 else if l = 0x0 then .undefined w0 else .popl (.mem (.ir l)) h
  else if b = 0x6 then
    if h = 0x0 then .addl l (.imm (w1 ++ w2)) else .addl l (.mem (.ir h))
  else if b = 0x7 then
    if h = 0x0 then .undefined w0 else if l = 0x0 then .undefined w0 else .pop (.mem (.ir l)) h
  else if b = 0x8 then
    if h = 0x0 then .multl l (.imm (w1 ++ w2)) else .multl l (.mem (.ir h))
  else if b = 0x9 then
    if h = 0x0 then .mult l (.imm w1) else .mult l (.mem (.ir h))
  else if b = 0xA then
    if h = 0x0 then .divl l (.imm (w1 ++ w2)) else .divl l (.mem (.ir h))
  else if b = 0xB then
    if h = 0x0 then .div l (.imm w1) else .div l (.mem (.ir h))
  else if b = 0xC then
    if l = 0x1 then (if h = 0x0 then .undefined w0 else .ldm (nib w1 2) (.ir h) (nib w1 0))
    else if l = 0x8 then (if h = 0x0 then .undefined w0 else .testl (.mem (.ir h)))
    else if l = 0x9 then (if h = 0x0 then .undefined w0 else .ldmTo (.ir h) (nib w1 2) (nib w1 0))
    else .undefined w0
  else if b = 0xD then
    if h = 0x0 then .undefined w0 else .ldlTo (.mem (.ir h)) l
  else if b = 0xE then
    if h = 0x0 then .undefined w0 else .jp l (.ir h)
  else if b = 0xF then
    if l = 0x0 then (if h = 0x0 then .undefined w0 else .call (.ir h))
    else .undefined w0
  else .undefined w0

/-- The rows whose first nibble is 2. -/
def decodePage2 (_seg : Bool) (b h l : BitVec 4) (w0 w1 _w2 _w3 : Word) : Instr :=
  if b = 0x0 then
    if h = 0x0 then .ldbIM l (lowByte w1) else .ldbMem l (.mem (.ir h))
  else if b = 0x1 then
    if h = 0x0 then .ldIM l w1 else .ldMem l (.mem (.ir h))
  else if b = 0x2 then
    if h = 0x0 then .resbDyn (nib w1 2) l else .resb (.mem (.ir h)) l
  else if b = 0x3 then
    if h = 0x0 then .resDyn (nib w1 2) l else .res (.mem (.ir h)) l
  else if b = 0x4 then
    if h = 0x0 then .setbDyn (nib w1 2) l else .setb (.mem (.ir h)) l
  else if b = 0x5 then
    if h = 0x0 then .setDyn (nib w1 2) l else .set (.mem (.ir h)) l
  else if b = 0x6 then
    if h = 0x0 then .bitbDyn (nib w1 2) l else .bitb (.mem (.ir h)) l
  else if b = 0x7 then
    if h = 0x0 then .bitDyn (nib w1 2) l else .bit (.mem (.ir h)) l
  else if b = 0x8 then
    if h = 0x0 then .undefined w0 else .incb (.mem (.ir h)) l
  else if b = 0x9 then
    if h = 0x0 then .undefined w0 else .inc (.mem (.ir h)) l
  else if b = 0xA then
    if h = 0x0 then .undefined w0 else .decb (.mem (.ir h)) l
  else if b = 0xB then
    if h = 0x0 then .undefined w0 else .dec (.mem (.ir h)) l
  else if b = 0xC then
    if h = 0x0 then .undefined w0 else .exb l (.mem (.ir h))
  else if b = 0xD then
    if h = 0x0 then .undefined w0 else .ex l (.mem (.ir h))
  else if b = 0xE then
    if h = 0x0 then .undefined w0 else .ldbTo (.mem (.ir h)) l
  else if b = 0xF then
    if h = 0x0 then .undefined w0 else .ldTo (.mem (.ir h)) l
  else .undefined w0

/-- The rows whose first nibble is 3. -/
def decodePage3 (_seg : Bool) (b h l : BitVec 4) (w0 w1 _w2 _w3 : Word) : Instr :=
  if b = 0x0 then
    if h = 0x0 then .ldrbLoad l w1 else .ldbMem l (.ba h w1)
  else if b = 0x1 then
    if h = 0x0 then .ldrLoad l w1 else .ldMem l (.ba h w1)
  else if b = 0x2 then
    if h = 0x0 then .ldrbStore w1 l else .ldbTo (.ba h w1) l
  else if b = 0x3 then
    if h = 0x0 then .ldrStore w1 l else .ldTo (.ba h w1) l
  else if b = 0x4 then
    if h = 0x0 then .ldar l w1 else .lda l (.ba h w1)
  else if b = 0x5 then
    if h = 0x0 then .ldrlLoad l w1 else .ldlMem l (.ba h w1)
  else if b = 0x7 then
    if h = 0x0 then .ldrlStore w1 l else .ldlTo (.ba h w1) l
  else if b = 0x9 then
    if l = 0x0 then (if h = 0x0 then .undefined w0 else .ldps (.ir h))
    else .undefined w0
  else if b = 0xA then
    if l = 0x0 then (if w1.getLsbD 3 then .inib (nib w1 1) h (nib w1 2) else .inirb (nib w1 1) h (nib w1 2))
    else if l = 0x1 then (if w1.getLsbD 3 then .sinib (nib w1 1) h (nib w1 2) else .sinirb (nib w1 1) h (nib w1 2))
    else if l = 0x2 then (if w1.getLsbD 3 then .outib (nib w1 1) h (nib w1 2) else .otirb (nib w1 1) h (nib w1 2))
    else if l = 0x3 then (if w1.getLsbD 3 then .soutib (nib w1 1) h (nib w1 2) else .sotirb (nib w1 1) h (nib w1 2))
    else if l = 0x4 then (.inb h (.da w1))
    else if l = 0x5 then (.sinb h w1)
    else if l = 0x6 then (.outb (.da w1) h)
    else if l = 0x7 then (.soutb w1 h)
    else if l = 0x8 then (if w1.getLsbD 3 then .indb (nib w1 1) h (nib w1 2) else .indrb (nib w1 1) h (nib w1 2))
    else if l = 0x9 then (if w1.getLsbD 3 then .sindb (nib w1 1) h (nib w1 2) else .sindrb (nib w1 1) h (nib w1 2))
    else if l = 0xA then (if w1.getLsbD 3 then .outdb (nib w1 1) h (nib w1 2) else .otdrb (nib w1 1) h (nib w1 2))
    else if l = 0xB then (if w1.getLsbD 3 then .soutdb (nib w1 1) h (nib w1 2) else .sotdrb (nib w1 1) h (nib w1 2))
    else .undefined w0
  else if b = 0xB then
    if l = 0x0 then (if w1.getLsbD 3 then .ini (nib w1 1) h (nib w1 2) else .inir (nib w1 1) h (nib w1 2))
    else if l = 0x1 then (if w1.getLsbD 3 then .sini (nib w1 1) h (nib w1 2) else .sinir (nib w1 1) h (nib w1 2))
    else if l = 0x2 then (if w1.getLsbD 3 then .outi (nib w1 1) h (nib w1 2) else .otir (nib w1 1) h (nib w1 2))
    else if l = 0x3 then (if w1.getLsbD 3 then .souti (nib w1 1) h (nib w1 2) else .sotir (nib w1 1) h (nib w1 2))
    else if l = 0x4 then (.inw h (.da w1))
    else if l = 0x5 then (.sin h w1)
    else if l = 0x6 then (.outw (.da w1) h)
    else if l = 0x7 then (.sout w1 h)
    else if l = 0x8 then (if w1.getLsbD 3 then .ind (nib w1 1) h (nib w1 2) else .indr (nib w1 1) h (nib w1 2))
    else if l = 0x9 then (if w1.getLsbD 3 then .sind (nib w1 1) h (nib w1 2) else .sindr (nib w1 1) h (nib w1 2))
    else if l = 0xA then (if w1.getLsbD 3 then .outd (nib w1 1) h (nib w1 2) else .otdr (nib w1 1) h (nib w1 2))
    else if l = 0xB then (if w1.getLsbD 3 then .soutd (nib w1 1) h (nib w1 2) else .sotdr (nib w1 1) h (nib w1 2))
    else .undefined w0
  else if b = 0xC then
    if h = 0x0 then .undefined w0 else .inb l (.ir h)
  else if b = 0xD then
    if h = 0x0 then .undefined w0 else .inw l (.ir h)
  else if b = 0xE then
    if h = 0x0 then .undefined w0 else .outb (.ir h) l
  else if b = 0xF then
    if h = 0x0 then .undefined w0 else .outw (.ir h) l
  else .undefined w0

/-- The rows whose first nibble is 4. -/
def decodePage4 (seg : Bool) (b h l : BitVec 4) (w0 w1 w2 w3 : Word) : Instr :=
  let ad := addrOp seg w1 w2
  let wa := afterAddr seg w1 w2 w3
  if b = 0x0 then
    if h = 0x0 then .addb l (.mem (.da ad)) else .addb l (.mem (.x h ad))
  else if b = 0x1 then
    if h = 0x0 then .add l (.mem (.da ad)) else .add l (.mem (.x h ad))
  else if b = 0x2 then
    if h = 0x0 then .subb l (.mem (.da ad)) else .subb l (.mem (.x h ad))
  else if b = 0x3 then
    if h = 0x0 then .sub l (.mem (.da ad)) else .sub l (.mem (.x h ad))
  else if b = 0x4 then
    if h = 0x0 then .orb l (.mem (.da ad)) else .orb l (.mem (.x h ad))
  else if b = 0x5 then
    if h = 0x0 then .or l (.mem (.da ad)) else .or l (.mem (.x h ad))
  else if b = 0x6 then
    if h = 0x0 then .andb l (.mem (.da ad)) else .andb l (.mem (.x h ad))
  else if b = 0x7 then
    if h = 0x0 then .and l (.mem (.da ad)) else .and l (.mem (.x h ad))
  else if b = 0x8 then
    if h = 0x0 then .xorb l (.mem (.da ad)) else .xorb l (.mem (.x h ad))
  else if b = 0x9 then
    if h = 0x0 then .xor l (.mem (.da ad)) else .xor l (.mem (.x h ad))
  else if b = 0xA then
    if h = 0x0 then .cpb l (.mem (.da ad)) else .cpb l (.mem (.x h ad))
  else if b = 0xB then
    if h = 0x0 then .cp l (.mem (.da ad)) else .cp l (.mem (.x h ad))
  else if b = 0xC then
    if l = 0x0 then (if h = 0x0 then .comb (.mem (.da ad)) else .comb (.mem (.x h ad)))
    else if l = 0x1 then (if h = 0x0 then .cpbImm (.da ad) (lowByte wa) else .cpbImm (.x h ad) (lowByte wa))
    else if l = 0x2 then (if h = 0x0 then .negb (.mem (.da ad)) else .negb (.mem (.x h ad)))
    else if l = 0x4 then (if h = 0x0 then .testb (.mem (.da ad)) else .testb (.mem (.x h ad)))
    else if l = 0x5 then (if h = 0x0 then .ldbImm (.da ad) (lowByte wa) else .ldbImm (.x h ad) (lowByte wa))
    else if l = 0x6 then (if h = 0x0 then .tsetb (.mem (.da ad)) else .tsetb (.mem (.x h ad)))
    else if l = 0x8 then (if h = 0x0 then .clrb (.mem (.da ad)) else .clrb (.mem (.x h ad)))
    else .undefined w0
  else if b = 0xD then
    if l = 0x0 then (if h = 0x0 then .com (.mem (.da ad)) else .com (.mem (.x h ad)))
    else if l = 0x1 then (if h = 0x0 then .cpImm (.da ad) wa else .cpImm (.x h ad) wa)
    else if l = 0x2 then (if h = 0x0 then .neg (.mem (.da ad)) else .neg (.mem (.x h ad)))
    else if l = 0x4 then (if h = 0x0 then .test (.mem (.da ad)) else .test (.mem (.x h ad)))
    else if l = 0x5 then (if h = 0x0 then .ldImm (.da ad) wa else .ldImm (.x h ad) wa)
    else if l = 0x6 then (if h = 0x0 then .tset (.mem (.da ad)) else .tset (.mem (.x h ad)))
    else if l = 0x8 then (if h = 0x0 then .clr (.mem (.da ad)) else .clr (.mem (.x h ad)))
    else .undefined w0
  else if b = 0xE then
    .ext4E (h ++ l)
  else if b = 0xF then
    .ext4F (h ++ l)
  else .undefined w0

/-- The rows whose first nibble is 5. -/
def decodePage5 (seg : Bool) (b h l : BitVec 4) (w0 w1 w2 w3 : Word) : Instr :=
  let ad := addrOp seg w1 w2
  let ad2 := addrOp seg w2 w3
  if b = 0x0 then
    if h = 0x0 then .cpl l (.mem (.da ad)) else .cpl l (.mem (.x h ad))
  else if b = 0x1 then
    if l = 0x0 then (if h = 0x0 then .undefined w0 else .pushl h (.mem (.da ad)))
    else if h = 0x0 then .undefined w0 else .pushl h (.mem (.x l ad))
  else if b = 0x2 then
    if h = 0x0 then .subl l (.mem (.da ad)) else .subl l (.mem (.x h ad))
  else if b = 0x3 then
    if l = 0x0 then (if h = 0x0 then .undefined w0 else .push h (.mem (.da ad)))
    else if h = 0x0 then .undefined w0 else .push h (.mem (.x l ad))
  else if b = 0x4 then
    if h = 0x0 then .ldlMem l (.mem (.da ad)) else .ldlMem l (.mem (.x h ad))
  else if b = 0x5 then
    if l = 0x0 then (if h = 0x0 then .undefined w0 else .popl (.mem (.da ad)) h)
    else if h = 0x0 then .undefined w0 else .popl (.mem (.x l ad)) h
  else if b = 0x6 then
    if h = 0x0 then .addl l (.mem (.da ad)) else .addl l (.mem (.x h ad))
  else if b = 0x7 then
    if l = 0x0 then (if h = 0x0 then .undefined w0 else .pop (.mem (.da ad)) h)
    else if h = 0x0 then .undefined w0 else .pop (.mem (.x l ad)) h
  else if b = 0x8 then
    if h = 0x0 then .multl l (.mem (.da ad)) else .multl l (.mem (.x h ad))
  else if b = 0x9 then
    if h = 0x0 then .mult l (.mem (.da ad)) else .mult l (.mem (.x h ad))
  else if b = 0xA then
    if h = 0x0 then .divl l (.mem (.da ad)) else .divl l (.mem (.x h ad))
  else if b = 0xB then
    if h = 0x0 then .div l (.mem (.da ad)) else .div l (.mem (.x h ad))
  else if b = 0xC then
    if l = 0x1 then (if h = 0x0 then .ldm (nib w1 2) (.da ad2) (nib w1 0) else .ldm (nib w1 2) (.x h ad2) (nib w1 0))
    else if l = 0x8 then (if h = 0x0 then .testl (.mem (.da ad)) else .testl (.mem (.x h ad)))
    else if l = 0x9 then (if h = 0x0 then .ldmTo (.da ad2) (nib w1 2) (nib w1 0)
      else .ldmTo (.x h ad2) (nib w1 2) (nib w1 0))
    else .undefined w0
  else if b = 0xD then
    if h = 0x0 then .ldlTo (.mem (.da ad)) l else .ldlTo (.mem (.x h ad)) l
  else if b = 0xE then
    if h = 0x0 then .jp l (.da ad) else .jp l (.x h ad)
  else if b = 0xF then
    if l = 0x0 then (if h = 0x0 then .call (.da ad) else .call (.x h ad))
    else .undefined w0
  else .undefined w0

/-- The rows whose first nibble is 6. -/
def decodePage6 (seg : Bool) (b h l : BitVec 4) (w0 w1 w2 _w3 : Word) : Instr :=
  let ad := addrOp seg w1 w2
  if b = 0x0 then
    if h = 0x0 then .ldbMem l (.mem (.da ad)) else .ldbMem l (.mem (.x h ad))
  else if b = 0x1 then
    if h = 0x0 then .ldMem l (.mem (.da ad)) else .ldMem l (.mem (.x h ad))
  else if b = 0x2 then
    if h = 0x0 then .resb (.mem (.da ad)) l else .resb (.mem (.x h ad)) l
  else if b = 0x3 then
    if h = 0x0 then .res (.mem (.da ad)) l else .res (.mem (.x h ad)) l
  else if b = 0x4 then
    if h = 0x0 then .setb (.mem (.da ad)) l else .setb (.mem (.x h ad)) l
  else if b = 0x5 then
    if h = 0x0 then .set (.mem (.da ad)) l else .set (.mem (.x h ad)) l
  else if b = 0x6 then
    if h = 0x0 then .bitb (.mem (.da ad)) l else .bitb (.mem (.x h ad)) l
  else if b = 0x7 then
    if h = 0x0 then .bit (.mem (.da ad)) l else .bit (.mem (.x h ad)) l
  else if b = 0x8 then
    if h = 0x0 then .incb (.mem (.da ad)) l else .incb (.mem (.x h ad)) l
  else if b = 0x9 then
    if h = 0x0 then .inc (.mem (.da ad)) l else .inc (.mem (.x h ad)) l
  else if b = 0xA then
    if h = 0x0 then .decb (.mem (.da ad)) l else .decb (.mem (.x h ad)) l
  else if b = 0xB then
    if h = 0x0 then .dec (.mem (.da ad)) l else .dec (.mem (.x h ad)) l
  else if b = 0xC then
    if h = 0x0 then .exb l (.mem (.da ad)) else .exb l (.mem (.x h ad))
  else if b = 0xD then
    if h = 0x0 then .ex l (.mem (.da ad)) else .ex l (.mem (.x h ad))
  else if b = 0xE then
    if h = 0x0 then .ldbTo (.mem (.da ad)) l else .ldbTo (.mem (.x h ad)) l
  else if b = 0xF then
    if h = 0x0 then .ldTo (.mem (.da ad)) l else .ldTo (.mem (.x h ad)) l
  else .undefined w0

/-- The rows whose first nibble is 7. -/
def decodePage7 (seg : Bool) (b h l : BitVec 4) (w0 w1 w2 _w3 : Word) : Instr :=
  let ad := addrOp seg w1 w2
  if b = 0x0 then
    if h = 0x0 then .undefined w0 else .ldbMem l (.bx h (nib w1 2))
  else if b = 0x1 then
    if h = 0x0 then .undefined w0 else .ldMem l (.bx h (nib w1 2))
  else if b = 0x2 then
    if h = 0x0 then .undefined w0 else .ldbTo (.bx h (nib w1 2)) l
  else if b = 0x3 then
    if h = 0x0 then .undefined w0 else .ldTo (.bx h (nib w1 2)) l
  else if b = 0x4 then
    if h = 0x0 then .undefined w0 else .lda l (.bx h (nib w1 2))
  else if b = 0x5 then
    if h = 0x0 then .undefined w0 else .ldlMem l (.bx h (nib w1 2))
  else if b = 0x6 then
    if h = 0x0 then .lda l (.mem (.da ad)) else .lda l (.mem (.x h ad))
  else if b = 0x7 then
    if h = 0x0 then .undefined w0 else .ldlTo (.bx h (nib w1 2)) l
  else if b = 0x9 then
    if l = 0x0 then (if h = 0x0 then .ldps (.da ad) else .ldps (.x h ad))
    else .undefined w0
  else if b = 0xA then
    if l = 0x0 then (if h = 0x0 then .halt else .undefined w0)
    else .undefined w0
  else if b = 0xB then
    if l = 0x0 then (if h = 0x0 then .iret else .undefined w0)
    else if l = 0x8 then (if h = 0x0 then .mset else .undefined w0)
    else if l = 0x9 then (if h = 0x0 then .mres else .undefined w0)
    else if l = 0xA then (if h = 0x0 then .mbit else .undefined w0)
    else if l = 0xD then (.mreq h)
    else .undefined w0
  else if b = 0xC then
    if h = 0x0 then
      if l.extractLsb' 2 2 = 0 then .di (l.extractLsb' 1 1) (l.extractLsb' 0 1)
      else if l.extractLsb' 2 2 = 1 then .ei (l.extractLsb' 1 1) (l.extractLsb' 0 1) else .undefined w0
    else .undefined w0
  else if b = 0xD then
    if l.getLsbD 3 then .ldctlWrite h (l.extractLsb' 0 3) else .ldctlRead h (l.extractLsb' 0 3)
  else if b = 0xF then
    .sc (h ++ l)
  else .undefined w0

/-- The rows whose first nibble is 8. -/
def decodePage8 (_seg : Bool) (b h l : BitVec 4) (w0 _w1 _w2 _w3 : Word) : Instr :=
  if b = 0x0 then
    .addb l (.reg h)
  else if b = 0x1 then
    .add l (.reg h)
  else if b = 0x2 then
    .subb l (.reg h)
  else if b = 0x3 then
    .sub l (.reg h)
  else if b = 0x4 then
    .orb l (.reg h)
  else if b = 0x5 then
    .or l (.reg h)
  else if b = 0x6 then
    .andb l (.reg h)
  else if b = 0x7 then
    .and l (.reg h)
  else if b = 0x8 then
    .xorb l (.reg h)
  else if b = 0x9 then
    .xor l (.reg h)
  else if b = 0xA then
    .cpb l (.reg h)
  else if b = 0xB then
    .cp l (.reg h)
  else if b = 0xC then
    if l = 0x0 then (.comb (.reg h))
    else if l = 0x1 then (.ldctlbRead h)
    else if l = 0x2 then (.negb (.reg h))
    else if l = 0x4 then (.testb (.reg h))
    else if l = 0x6 then (.tsetb (.reg h))
    else if l = 0x8 then (.clrb (.reg h))
    else if l = 0x9 then (.ldctlbWrite h)
    else .undefined w0
  else if b = 0xD then
    if l = 0x0 then (.com (.reg h))
    else if l = 0x1 then (.setflg h)
    else if l = 0x2 then (.neg (.reg h))
    else if l = 0x3 then (.resflg h)
    else if l = 0x4 then (.test (.reg h))
    else if l = 0x5 then (.comflg h)
    else if l = 0x6 then (.tset (.reg h))
    else if l = 0x7 then (if h = 0x0 then .nop else .undefined w0)
    else if l = 0x8 then (.clr (.reg h))
    else .undefined w0
  else if b = 0xE then
    .ext8E (h ++ l)
  else if b = 0xF then
    .ext8F (h ++ l)
  else .undefined w0

/-- The rows whose first nibble is 9. -/
def decodePage9 (_seg : Bool) (b h l : BitVec 4) (w0 _w1 _w2 _w3 : Word) : Instr :=
  if b = 0x0 then
    .cpl l (.reg h)
  else if b = 0x1 then
    if h = 0x0 then .undefined w0 else .pushl h (.reg l)
  else if b = 0x2 then
    .subl l (.reg h)
  else if b = 0x3 then
    if h = 0x0 then .undefined w0 else .push h (.reg l)
  else if b = 0x4 then
    .ldlR l h
  else if b = 0x5 then
    if h = 0x0 then .undefined w0 else .popl (.reg l) h
  else if b = 0x6 then
    .addl l (.reg h)
  else if b = 0x7 then
    if h = 0x0 then .undefined w0 else .pop (.reg l) h
  else if b = 0x8 then
    .multl l (.reg h)
  else if b = 0x9 then
    .mult l (.reg h)
  else if b = 0xA then
    .divl l (.reg h)
  else if b = 0xB then
    .div l (.reg h)
  else if b = 0xC then
    if l = 0x8 then (.testl (.reg h))
    else .undefined w0
  else if b = 0xE then
    if h = 0x0 then .ret l else .undefined w0
  else .undefined w0

/-- The rows whose first nibble is A. -/
def decodePageA (_seg : Bool) (b h l : BitVec 4) (w0 _w1 _w2 _w3 : Word) : Instr :=
  if b = 0x0 then
    .ldbR l h
  else if b = 0x1 then
    .ldR l h
  else if b = 0x2 then
    .resb (.reg h) l
  else if b = 0x3 then
    .res (.reg h) l
  else if b = 0x4 then
    .setb (.reg h) l
  else if b = 0x5 then
    .set (.reg h) l
  else if b = 0x6 then
    .bitb (.reg h) l
  else if b = 0x7 then
    .bit (.reg h) l
  else if b = 0x8 then
    .incb (.reg h) l
  else if b = 0x9 then
    .inc (.reg h) l
  else if b = 0xA then
    .decb (.reg h) l
  else if b = 0xB then
    .dec (.reg h) l
  else if b = 0xC then
    .exb l (.reg h)
  else if b = 0xD then
    .ex l (.reg h)
  else if b = 0xE then
    .tccb l h
  else if b = 0xF then
    .tcc l h
  else .undefined w0

/-- The rows whose first nibble is B. -/
def decodePageB (_seg : Bool) (b h l : BitVec 4) (w0 w1 _w2 _w3 : Word) : Instr :=
  if b = 0x0 then
    if l = 0x0 then (.dab h)
    else .undefined w0
  else if b = 0x1 then
    if l = 0x0 then (.extsb h)
    else if l = 0x7 then (.extsl h)
    else if l = 0xA then (.exts h)
    else .undefined w0
  else if b = 0x2 then
    if l = 0x0 then (.rlb h false)
    else if l = 0x1 then (.sllb h w1)
    else if l = 0x2 then (.rlb h true)
    else if l = 0x3 then (.sdlb h (nib w1 2))
    else if l = 0x4 then (.rrb h false)
    else if l = 0x6 then (.rrb h true)
    else if l = 0x8 then (.rlcb h false)
    else if l = 0x9 then (.slab h w1)
    else if l = 0xA then (.rlcb h true)
    else if l = 0xB then (.sdab h (nib w1 2))
    else if l = 0xC then (.rrcb h false)
    else if l = 0xE then (.rrcb h true)
    else .undefined w0
  else if b = 0x3 then
    if l = 0x0 then (.rl h false)
    else if l = 0x1 then (.sll h w1)
    else if l = 0x2 then (.rl h true)
    else if l = 0x3 then (.sdl h (nib w1 2))
    else if l = 0x4 then (.rr h false)
    else if l = 0x5 then (.slll h w1)
    else if l = 0x6 then (.rr h true)
    else if l = 0x7 then (.sdll h (nib w1 2))
    else if l = 0x8 then (.rlc h false)
    else if l = 0x9 then (.sla h w1)
    else if l = 0xA then (.rlc h true)
    else if l = 0xB then (.sda h (nib w1 2))
    else if l = 0xC then (.rrc h false)
    else if l = 0xD then (.slal h w1)
    else if l = 0xE then (.rrc h true)
    else if l = 0xF then (.sdal h (nib w1 2))
    else .undefined w0
  else if b = 0x4 then
    .adcb l h
  else if b = 0x5 then
    .adc l h
  else if b = 0x6 then
    .sbcb l h
  else if b = 0x7 then
    .sbc l h
  else if b = 0x8 then
    if l = 0x0 then (.trib h (nib w1 1) (nib w1 2))
    else if l = 0x2 then (.trtib h (nib w1 1) (nib w1 2))
    else if l = 0x4 then (.trirb h (nib w1 1) (nib w1 2))
    else if l = 0x6 then (.trtirb h (nib w1 1) (nib w1 2))
    else if l = 0x8 then (.trdb h (nib w1 1) (nib w1 2))
    else if l = 0xA then (.trtdb h (nib w1 1) (nib w1 2))
    else if l = 0xC then (.trdrb h (nib w1 1) (nib w1 2))
    else if l = 0xE then (.trtdrb h (nib w1 1) (nib w1 2))
    else .undefined w0
  else if b = 0xA then
    if l = 0x0 then (.cpib (nib w1 1) h (nib w1 2) (nib w1 0))
    else if l = 0x1 then (if w1.getLsbD 3 then .ldib (nib w1 1) h (nib w1 2) else .ldirb (nib w1 1) h (nib w1 2))
    else if l = 0x2 then (.cpsib (nib w1 1) h (nib w1 2) (nib w1 0))
    else if l = 0x4 then (.cpirb (nib w1 1) h (nib w1 2) (nib w1 0))
    else if l = 0x6 then (.cpsirb (nib w1 1) h (nib w1 2) (nib w1 0))
    else if l = 0x8 then (.cpdb (nib w1 1) h (nib w1 2) (nib w1 0))
    else if l = 0x9 then (if w1.getLsbD 3 then .lddb (nib w1 1) h (nib w1 2) else .lddrb (nib w1 1) h (nib w1 2))
    else if l = 0xA then (.cpsdb (nib w1 1) h (nib w1 2) (nib w1 0))
    else if l = 0xC then (.cpdrb (nib w1 1) h (nib w1 2) (nib w1 0))
    else if l = 0xE then (.cpsdrb (nib w1 1) h (nib w1 2) (nib w1 0))
    else .undefined w0
  else if b = 0xB then
    if l = 0x0 then (.cpi (nib w1 1) h (nib w1 2) (nib w1 0))
    else if l = 0x1 then (if w1.getLsbD 3 then .ldi (nib w1 1) h (nib w1 2) else .ldir (nib w1 1) h (nib w1 2))
    else if l = 0x2 then (.cpsi (nib w1 1) h (nib w1 2) (nib w1 0))
    else if l = 0x4 then (.cpir (nib w1 1) h (nib w1 2) (nib w1 0))
    else if l = 0x6 then (.cpsir (nib w1 1) h (nib w1 2) (nib w1 0))
    else if l = 0x8 then (.cpd (nib w1 1) h (nib w1 2) (nib w1 0))
    else if l = 0x9 then (if w1.getLsbD 3 then .ldd (nib w1 1) h (nib w1 2) else .lddr (nib w1 1) h (nib w1 2))
    else if l = 0xA then (.cpsd (nib w1 1) h (nib w1 2) (nib w1 0))
    else if l = 0xC then (.cpdr (nib w1 1) h (nib w1 2) (nib w1 0))
    else if l = 0xE then (.cpsdr (nib w1 1) h (nib w1 2) (nib w1 0))
    else .undefined w0
  else if b = 0xC then
    .rrdb h l
  else if b = 0xD then
    .ldk h l
  else if b = 0xE then
    .rldb h l
  else .undefined w0

/-- The rows whose first nibble is C. -/
def decodePageC (_seg : Bool) (b h l : BitVec 4) (_w0 _w1 _w2 _w3 : Word) : Instr :=
  .ldbShort b (h ++ l)

/-- The rows whose first nibble is D. -/
def decodePageD (_seg : Bool) (b h l : BitVec 4) (_w0 _w1 _w2 _w3 : Word) : Instr :=
  .calr (b ++ h ++ l)

/-- The rows whose first nibble is E. -/
def decodePageE (_seg : Bool) (b h l : BitVec 4) (_w0 _w1 _w2 _w3 : Word) : Instr :=
  .jr b (h ++ l)

/-- The rows whose first nibble is F. -/
def decodePageF (_seg : Bool) (b h l : BitVec 4) (_w0 _w1 _w2 _w3 : Word) : Instr :=
  if h.getLsbD 3 then .djnz b (h.extractLsb' 0 3 ++ l) else .dbjnz b (h.extractLsb' 0 3 ++ l)

/-- The instruction whose words are `w0 w1 w2 w3` in the mode `seg` (words it does not take are ignored). Every opcode
word has a row: one that matches no other row is `undefined` (R135, R163). -/
def decode (seg : Bool) (w0 w1 w2 w3 : Word) : Instr :=
  let a := nib w0 3
  let b := nib w0 2
  let h := nib w0 1
  let l := nib w0 0
  if a = 0x0 then decodePage0 seg b h l w0 w1 w2 w3
  else if a = 0x1 then decodePage1 seg b h l w0 w1 w2 w3
  else if a = 0x2 then decodePage2 seg b h l w0 w1 w2 w3
  else if a = 0x3 then decodePage3 seg b h l w0 w1 w2 w3
  else if a = 0x4 then decodePage4 seg b h l w0 w1 w2 w3
  else if a = 0x5 then decodePage5 seg b h l w0 w1 w2 w3
  else if a = 0x6 then decodePage6 seg b h l w0 w1 w2 w3
  else if a = 0x7 then decodePage7 seg b h l w0 w1 w2 w3
  else if a = 0x8 then decodePage8 seg b h l w0 w1 w2 w3
  else if a = 0x9 then decodePage9 seg b h l w0 w1 w2 w3
  else if a = 0xA then decodePageA seg b h l w0 w1 w2 w3
  else if a = 0xB then decodePageB seg b h l w0 w1 w2 w3
  else if a = 0xC then decodePageC seg b h l w0 w1 w2 w3
  else if a = 0xD then decodePageD seg b h l w0 w1 w2 w3
  else if a = 0xE then decodePageE seg b h l w0 w1 w2 w3
  else decodePageF seg b h l w0 w1 w2 w3

/-- The word of four nibbles, as the spec writes an opcode word. -/
def op (a b h l : BitVec 4) : Word := a ++ b ++ h ++ l

/-- R135: an opcode word whose bits 15:14 are the mode of its operand and whose bits 13:8 the operation. -/
def code (mode : BitVec 2) (o : BitVec 6) (h l : BitVec 4) : Word := mode ++ o ++ h ++ l

/-- R132 `imm8w`: a byte immediate's word, with its ignored bits 15:8 zero. -/
def byteWord (v : Byte) : Word := v.setWidth 16

/-- R143: the words of an address operand, the ignored bits of a long form's first word zero. -/
def AddrOp.encode : AddrOp → List Word
  | .nonseg off => [off]
  | .short seg off => [0#1 ++ seg ++ off]
  | .long seg off => [1#1 ++ seg ++ 0#8, off]

/-- The mode bits of a memory operand (R141): 00 for IR, 01 for DA and X. -/
def MemOp.mode : MemOp → BitVec 2
  | .ir _ => 0b00
  | .da _ => 0b01
  | .x _ _ => 0b01

/-- The register field of a memory operand; 0 for DA (R141). -/
def MemOp.field : MemOp → Reg
  | .ir n => n
  | .da _ => 0
  | .x n _ => n

/-- The extension words of a memory operand. -/
def MemOp.ext : MemOp → List Word
  | .ir _ => []
  | .da ad => ad.encode
  | .x _ ad => ad.encode

/-- The mode bits of a register or memory operand (R141): 10 for R. -/
def RegMem.mode : RegMem → BitVec 2
  | .reg _ => 0b10
  | .mem m => m.mode

/-- The register field of a register or memory operand. -/
def RegMem.field : RegMem → Reg
  | .reg n => n
  | .mem m => m.field

/-- The extension words of a register or memory operand. -/
def RegMem.ext : RegMem → List Word
  | .reg _ => []
  | .mem m => m.ext

/-- The mode bits of a source (R141): 10 for R, 00 for IM. -/
def Source.mode {α : Type} : Source α → BitVec 2
  | .reg _ => 0b10
  | .imm _ => 0b00
  | .mem m => m.mode

/-- The register field of a source; 0 for IM (R141). -/
def Source.field {α : Type} : Source α → Reg
  | .reg n => n
  | .imm _ => 0
  | .mem m => m.field

/-- The extension words of a byte source (R132 `imm8w`). -/
def Source.extByte : Source Byte → List Word
  | .reg _ => []
  | .imm v => [byteWord v]
  | .mem m => m.ext

/-- The extension words of a word source (R132 `imm16`). -/
def Source.extWord : Source Word → List Word
  | .reg _ => []
  | .imm v => [v]
  | .mem m => m.ext

/-- The extension words of a long source (R132 `imm32`, high word first). -/
def Source.extLong : Source Long → List Word
  | .reg _ => []
  | .imm v => [v.extractLsb' 16 16, v.extractLsb' 0 16]
  | .mem m => m.ext

/-- The words of an instruction, every ignored bit (R165) zero. -/
def encode : Instr → List Word
  | .addb d src => code src.mode 0x00 src.field d :: src.extByte
  | .add d src => code src.mode 0x01 src.field d :: src.extWord
  | .subb d src => code src.mode 0x02 src.field d :: src.extByte
  | .sub d src => code src.mode 0x03 src.field d :: src.extWord
  | .orb d src => code src.mode 0x04 src.field d :: src.extByte
  | .or d src => code src.mode 0x05 src.field d :: src.extWord
  | .andb d src => code src.mode 0x06 src.field d :: src.extByte
  | .and d src => code src.mode 0x07 src.field d :: src.extWord
  | .xorb d src => code src.mode 0x08 src.field d :: src.extByte
  | .xor d src => code src.mode 0x09 src.field d :: src.extWord
  | .cpb d src => code src.mode 0x0A src.field d :: src.extByte
  | .cp d src => code src.mode 0x0B src.field d :: src.extWord
  | .cpl d src => code src.mode 0x10 src.field d :: src.extLong
  | .subl d src => code src.mode 0x12 src.field d :: src.extLong
  | .ldlIM d imm => [op 0x1 0x4 0x0 d, imm.extractLsb' 16 16, imm.extractLsb' 0 16]
  | .ldlMem d (.mem m) => code m.mode 0x14 m.field d :: m.ext
  | .ldlMem d (.ba s disp) => [op 0x3 0x5 s d, disp]
  | .ldlMem d (.bx s x) => [op 0x7 0x5 s d, op 0x0 x 0x0 0x0]
  | .ldlR d s => [op 0x9 0x4 s d]
  | .addl d src => code src.mode 0x16 src.field d :: src.extLong
  | .multl d src => code src.mode 0x18 src.field d :: src.extLong
  | .mult d src => code src.mode 0x19 src.field d :: src.extWord
  | .divl d src => code src.mode 0x1A src.field d :: src.extLong
  | .div d src => code src.mode 0x1B src.field d :: src.extWord
  | .ldbIM d imm => [op 0x2 0x0 0x0 d, byteWord imm]
  | .ldbMem d (.mem m) => code m.mode 0x20 m.field d :: m.ext
  | .ldbMem d (.ba s disp) => [op 0x3 0x0 s d, disp]
  | .ldbMem d (.bx s x) => [op 0x7 0x0 s d, op 0x0 x 0x0 0x0]
  | .ldbR d s => [op 0xA 0x0 s d]
  | .ldIM d imm => [op 0x2 0x1 0x0 d, imm]
  | .ldMem d (.mem m) => code m.mode 0x21 m.field d :: m.ext
  | .ldMem d (.ba s disp) => [op 0x3 0x1 s d, disp]
  | .ldMem d (.bx s x) => [op 0x7 0x1 s d, op 0x0 x 0x0 0x0]
  | .ldR d s => [op 0xA 0x1 s d]
  | .adcb d s => [op 0xB 0x4 s d]
  | .adc d s => [op 0xB 0x5 s d]
  | .sbcb d s => [op 0xB 0x6 s d]
  | .sbc d s => [op 0xB 0x7 s d]
  | .comb dst => code dst.mode 0x0C dst.field 0x0 :: dst.ext
  | .com dst => code dst.mode 0x0D dst.field 0x0 :: dst.ext
  | .cpbImm dst imm => code dst.mode 0x0C dst.field 0x1 :: dst.ext ++ [byteWord imm]
  | .cpImm dst imm => code dst.mode 0x0D dst.field 0x1 :: dst.ext ++ [imm]
  | .negb dst => code dst.mode 0x0C dst.field 0x2 :: dst.ext
  | .neg dst => code dst.mode 0x0D dst.field 0x2 :: dst.ext
  | .testb dst => code dst.mode 0x0C dst.field 0x4 :: dst.ext
  | .test dst => code dst.mode 0x0D dst.field 0x4 :: dst.ext
  | .ldbImm dst imm => code dst.mode 0x0C dst.field 0x5 :: dst.ext ++ [byteWord imm]
  | .ldImm dst imm => code dst.mode 0x0D dst.field 0x5 :: dst.ext ++ [imm]
  | .tsetb dst => code dst.mode 0x0C dst.field 0x6 :: dst.ext
  | .tset dst => code dst.mode 0x0D dst.field 0x6 :: dst.ext
  | .clrb dst => code dst.mode 0x0C dst.field 0x8 :: dst.ext
  | .clr dst => code dst.mode 0x0D dst.field 0x8 :: dst.ext
  | .push d (.imm imm) => [op 0x0 0xD d 0x9, imm]
  | .push d (.mem (.ir s)) => [op 0x1 0x3 d s]
  | .push d (.mem (.da ad)) => [op 0x5 0x3 d 0x0] ++ ad.encode
  | .push d (.mem (.x x ad)) => [op 0x5 0x3 d x] ++ ad.encode
  | .push d (.reg s) => [op 0x9 0x3 d s]
  | .ldctlbRead d => [op 0x8 0xC d 0x1]
  | .ldctlbWrite s => [op 0x8 0xC s 0x9]
  | .setflg mask => [op 0x8 0xD mask 0x1]
  | .resflg mask => [op 0x8 0xD mask 0x3]
  | .comflg mask => [op 0x8 0xD mask 0x5]
  | .nop => [op 0x8 0xD 0x0 0x7]
  | .testl dst => code dst.mode 0x1C dst.field 0x8 :: dst.ext
  | .ldm d src n => code src.mode 0x1C src.field 0x1 :: op 0x0 d 0x0 n :: src.ext
  | .ldmTo dst s n => code dst.mode 0x1C dst.field 0x9 :: op 0x0 s 0x0 n :: dst.ext
  | .ldlTo (.mem m) s => code m.mode 0x1D m.field s :: m.ext
  | .ldlTo (.ba d disp) s => [op 0x3 0x7 d s, disp]
  | .ldlTo (.bx d x) s => [op 0x7 0x7 d s, op 0x0 x 0x0 0x0]
  | .jp c dst => code dst.mode 0x1E dst.field c :: dst.ext
  | .ret c => [op 0x9 0xE 0x0 c]
  | .call dst => code dst.mode 0x1F dst.field 0x0 :: dst.ext
  | .pushl d src => code src.mode 0x11 d src.field :: src.ext
  | .popl dst s => code dst.mode 0x15 s dst.field :: dst.ext
  | .pop dst s => code dst.mode 0x17 s dst.field :: dst.ext
  | .resb dst b => code dst.mode 0x22 dst.field b :: dst.ext
  | .resbDyn d s => [op 0x2 0x2 0x0 s, op 0x0 d 0x0 0x0]
  | .res dst b => code dst.mode 0x23 dst.field b :: dst.ext
  | .resDyn d s => [op 0x2 0x3 0x0 s, op 0x0 d 0x0 0x0]
  | .setb dst b => code dst.mode 0x24 dst.field b :: dst.ext
  | .setbDyn d s => [op 0x2 0x4 0x0 s, op 0x0 d 0x0 0x0]
  | .set dst b => code dst.mode 0x25 dst.field b :: dst.ext
  | .setDyn d s => [op 0x2 0x5 0x0 s, op 0x0 d 0x0 0x0]
  | .bitb dst b => code dst.mode 0x26 dst.field b :: dst.ext
  | .bitbDyn d s => [op 0x2 0x6 0x0 s, op 0x0 d 0x0 0x0]
  | .bit dst b => code dst.mode 0x27 dst.field b :: dst.ext
  | .bitDyn d s => [op 0x2 0x7 0x0 s, op 0x0 d 0x0 0x0]
  | .incb dst n => code dst.mode 0x28 dst.field n :: dst.ext
  | .inc dst n => code dst.mode 0x29 dst.field n :: dst.ext
  | .decb dst n => code dst.mode 0x2A dst.field n :: dst.ext
  | .dec dst n => code dst.mode 0x2B dst.field n :: dst.ext
  | .exb d src => code src.mode 0x2C src.field d :: src.ext
  | .ex d src => code src.mode 0x2D src.field d :: src.ext
  | .ldbTo (.mem m) s => code m.mode 0x2E m.field s :: m.ext
  | .ldbTo (.ba d disp) s => [op 0x3 0x2 d s, disp]
  | .ldbTo (.bx d x) s => [op 0x7 0x2 d s, op 0x0 x 0x0 0x0]
  | .ldTo (.mem m) s => code m.mode 0x2F m.field s :: m.ext
  | .ldTo (.ba d disp) s => [op 0x3 0x3 d s, disp]
  | .ldTo (.bx d x) s => [op 0x7 0x3 d s, op 0x0 x 0x0 0x0]
  | .tccb c d => [op 0xA 0xE d c]
  | .tcc c d => [op 0xA 0xF d c]
  | .ldrbLoad d disp => [op 0x3 0x0 0x0 d, disp]
  | .ldrLoad d disp => [op 0x3 0x1 0x0 d, disp]
  | .ldrbStore disp s => [op 0x3 0x2 0x0 s, disp]
  | .ldrStore disp s => [op 0x3 0x3 0x0 s, disp]
  | .ldar d disp => [op 0x3 0x4 0x0 d, disp]
  | .lda d (.mem m) => code m.mode 0x36 m.field d :: m.ext
  | .lda d (.ba s disp) => [op 0x3 0x4 s d, disp]
  | .lda d (.bx s x) => [op 0x7 0x4 s d, op 0x0 x 0x0 0x0]
  | .ldrlLoad d disp => [op 0x3 0x5 0x0 d, disp]
  | .ldrlStore disp s => [op 0x3 0x7 0x0 s, disp]
  | .ldps src => code src.mode 0x39 src.field 0x0 :: src.ext
  | .dab d => [op 0xB 0x0 d 0x0]
  | .extsb d => [op 0xB 0x1 d 0x0]
  | .extsl d => [op 0xB 0x1 d 0x7]
  | .exts d => [op 0xB 0x1 d 0xA]
  | .rlb d two => [op 0xB 0x2 d (if two then 0x2 else 0x0)]
  | .rl d two => [op 0xB 0x3 d (if two then 0x2 else 0x0)]
  | .rrb d two => [op 0xB 0x2 d (if two then 0x6 else 0x4)]
  | .rr d two => [op 0xB 0x3 d (if two then 0x6 else 0x4)]
  | .rlcb d two => [op 0xB 0x2 d (if two then 0xA else 0x8)]
  | .rlc d two => [op 0xB 0x3 d (if two then 0xA else 0x8)]
  | .rrcb d two => [op 0xB 0x2 d (if two then 0xE else 0xC)]
  | .rrc d two => [op 0xB 0x3 d (if two then 0xE else 0xC)]
  | .sllb d count => [op 0xB 0x2 d 0x1, count]
  | .slab d count => [op 0xB 0x2 d 0x9, count]
  | .sdlb d s => [op 0xB 0x2 d 0x3, op 0x0 s 0x0 0x0]
  | .sdab d s => [op 0xB 0x2 d 0xB, op 0x0 s 0x0 0x0]
  | .sll d count => [op 0xB 0x3 d 0x1, count]
  | .sla d count => [op 0xB 0x3 d 0x9, count]
  | .sdl d s => [op 0xB 0x3 d 0x3, op 0x0 s 0x0 0x0]
  | .sda d s => [op 0xB 0x3 d 0xB, op 0x0 s 0x0 0x0]
  | .slll d count => [op 0xB 0x3 d 0x5, count]
  | .slal d count => [op 0xB 0x3 d 0xD, count]
  | .sdll d s => [op 0xB 0x3 d 0x7, op 0x0 s 0x0 0x0]
  | .sdal d s => [op 0xB 0x3 d 0xF, op 0x0 s 0x0 0x0]
  | .trib d s r => [op 0xB 0x8 d 0x0, op 0x0 r s 0x0]
  | .trirb d s r => [op 0xB 0x8 d 0x4, op 0x0 r s 0x0]
  | .trdb d s r => [op 0xB 0x8 d 0x8, op 0x0 r s 0x0]
  | .trdrb d s r => [op 0xB 0x8 d 0xC, op 0x0 r s 0x0]
  | .trtib s t r => [op 0xB 0x8 s 0x2, op 0x0 r t 0x0]
  | .trtirb s t r => [op 0xB 0x8 s 0x6, op 0x0 r t 0x0]
  | .trtdb s t r => [op 0xB 0x8 s 0xA, op 0x0 r t 0x0]
  | .trtdrb s t r => [op 0xB 0x8 s 0xE, op 0x0 r t 0x0]
  | .cpib d s r c => [op 0xB 0xA s 0x0, op 0x0 r d c]
  | .cpi d s r c => [op 0xB 0xB s 0x0, op 0x0 r d c]
  | .cpirb d s r c => [op 0xB 0xA s 0x4, op 0x0 r d c]
  | .cpir d s r c => [op 0xB 0xB s 0x4, op 0x0 r d c]
  | .cpdb d s r c => [op 0xB 0xA s 0x8, op 0x0 r d c]
  | .cpd d s r c => [op 0xB 0xB s 0x8, op 0x0 r d c]
  | .cpdrb d s r c => [op 0xB 0xA s 0xC, op 0x0 r d c]
  | .cpdr d s r c => [op 0xB 0xB s 0xC, op 0x0 r d c]
  | .cpsib d s r c => [op 0xB 0xA s 0x2, op 0x0 r d c]
  | .cpsi d s r c => [op 0xB 0xB s 0x2, op 0x0 r d c]
  | .cpsirb d s r c => [op 0xB 0xA s 0x6, op 0x0 r d c]
  | .cpsir d s r c => [op 0xB 0xB s 0x6, op 0x0 r d c]
  | .cpsdb d s r c => [op 0xB 0xA s 0xA, op 0x0 r d c]
  | .cpsd d s r c => [op 0xB 0xB s 0xA, op 0x0 r d c]
  | .cpsdrb d s r c => [op 0xB 0xA s 0xE, op 0x0 r d c]
  | .cpsdr d s r c => [op 0xB 0xB s 0xE, op 0x0 r d c]
  | .ldib d s r => [op 0xB 0xA s 0x1, op 0x0 r d 0x8]
  | .ldi d s r => [op 0xB 0xB s 0x1, op 0x0 r d 0x8]
  | .ldirb d s r => [op 0xB 0xA s 0x1, op 0x0 r d 0x0]
  | .ldir d s r => [op 0xB 0xB s 0x1, op 0x0 r d 0x0]
  | .lddb d s r => [op 0xB 0xA s 0x9, op 0x0 r d 0x8]
  | .ldd d s r => [op 0xB 0xB s 0x9, op 0x0 r d 0x8]
  | .lddrb d s r => [op 0xB 0xA s 0x9, op 0x0 r d 0x0]
  | .lddr d s r => [op 0xB 0xB s 0x9, op 0x0 r d 0x0]
  | .rrdb l s => [op 0xB 0xC l s]
  | .ldk d n => [op 0xB 0xD d n]
  | .rldb l s => [op 0xB 0xE l s]
  | .ini d s r => [op 0x3 0xB s 0x0, op 0x0 r d 0x8]
  | .inib d s r => [op 0x3 0xA s 0x0, op 0x0 r d 0x8]
  | .inir d s r => [op 0x3 0xB s 0x0, op 0x0 r d 0x0]
  | .inirb d s r => [op 0x3 0xA s 0x0, op 0x0 r d 0x0]
  | .ind d s r => [op 0x3 0xB s 0x8, op 0x0 r d 0x8]
  | .indb d s r => [op 0x3 0xA s 0x8, op 0x0 r d 0x8]
  | .indr d s r => [op 0x3 0xB s 0x8, op 0x0 r d 0x0]
  | .indrb d s r => [op 0x3 0xA s 0x8, op 0x0 r d 0x0]
  | .outi d s r => [op 0x3 0xB s 0x2, op 0x0 r d 0x8]
  | .outib d s r => [op 0x3 0xA s 0x2, op 0x0 r d 0x8]
  | .otir d s r => [op 0x3 0xB s 0x2, op 0x0 r d 0x0]
  | .otirb d s r => [op 0x3 0xA s 0x2, op 0x0 r d 0x0]
  | .outd d s r => [op 0x3 0xB s 0xA, op 0x0 r d 0x8]
  | .outdb d s r => [op 0x3 0xA s 0xA, op 0x0 r d 0x8]
  | .otdr d s r => [op 0x3 0xB s 0xA, op 0x0 r d 0x0]
  | .otdrb d s r => [op 0x3 0xA s 0xA, op 0x0 r d 0x0]
  | .sini d s r => [op 0x3 0xB s 0x1, op 0x0 r d 0x8]
  | .sinib d s r => [op 0x3 0xA s 0x1, op 0x0 r d 0x8]
  | .sinir d s r => [op 0x3 0xB s 0x1, op 0x0 r d 0x0]
  | .sinirb d s r => [op 0x3 0xA s 0x1, op 0x0 r d 0x0]
  | .sind d s r => [op 0x3 0xB s 0x9, op 0x0 r d 0x8]
  | .sindb d s r => [op 0x3 0xA s 0x9, op 0x0 r d 0x8]
  | .sindr d s r => [op 0x3 0xB s 0x9, op 0x0 r d 0x0]
  | .sindrb d s r => [op 0x3 0xA s 0x9, op 0x0 r d 0x0]
  | .souti d s r => [op 0x3 0xB s 0x3, op 0x0 r d 0x8]
  | .soutib d s r => [op 0x3 0xA s 0x3, op 0x0 r d 0x8]
  | .sotir d s r => [op 0x3 0xB s 0x3, op 0x0 r d 0x0]
  | .sotirb d s r => [op 0x3 0xA s 0x3, op 0x0 r d 0x0]
  | .soutd d s r => [op 0x3 0xB s 0xB, op 0x0 r d 0x8]
  | .soutdb d s r => [op 0x3 0xA s 0xB, op 0x0 r d 0x8]
  | .sotdr d s r => [op 0x3 0xB s 0xB, op 0x0 r d 0x0]
  | .sotdrb d s r => [op 0x3 0xA s 0xB, op 0x0 r d 0x0]
  | .inw d (.da port) => [op 0x3 0xB d 0x4, port]
  | .inw d (.ir s) => [op 0x3 0xD s d]
  | .inb d (.da port) => [op 0x3 0xA d 0x4, port]
  | .inb d (.ir s) => [op 0x3 0xC s d]
  | .sin d port => [op 0x3 0xB d 0x5, port]
  | .sinb d port => [op 0x3 0xA d 0x5, port]
  | .outw (.da port) s => [op 0x3 0xB s 0x6, port]
  | .outw (.ir d) s => [op 0x3 0xF d s]
  | .outb (.da port) s => [op 0x3 0xA s 0x6, port]
  | .outb (.ir d) s => [op 0x3 0xE d s]
  | .sout port s => [op 0x3 0xB s 0x7, port]
  | .soutb port s => [op 0x3 0xA s 0x7, port]
  | .halt => [op 0x7 0xA 0x0 0x0]
  | .iret => [op 0x7 0xB 0x0 0x0]
  | .mset => [op 0x7 0xB 0x0 0x8]
  | .mres => [op 0x7 0xB 0x0 0x9]
  | .mbit => [op 0x7 0xB 0x0 0xA]
  | .mreq d => [op 0x7 0xB d 0xD]
  | .di a b => [op 0x7 0xC 0x0 (0b00#2 ++ a ++ b)]
  | .ei a b => [op 0x7 0xC 0x0 (0b01#2 ++ a ++ b)]
  | .ldctlRead d k => [op 0x7 0xD d (0#1 ++ k)]
  | .ldctlWrite s k => [op 0x7 0xD s (1#1 ++ k)]
  | .sc imm => [op 0x7 0xF (imm.extractLsb' 4 4) (imm.extractLsb' 0 4)]
  | .ext0E imm => [op 0x0 0xE (imm.extractLsb' 4 4) (imm.extractLsb' 0 4)]
  | .ext0F imm => [op 0x0 0xF (imm.extractLsb' 4 4) (imm.extractLsb' 0 4)]
  | .ext4E imm => [op 0x4 0xE (imm.extractLsb' 4 4) (imm.extractLsb' 0 4)]
  | .ext4F imm => [op 0x4 0xF (imm.extractLsb' 4 4) (imm.extractLsb' 0 4)]
  | .ext8E imm => [op 0x8 0xE (imm.extractLsb' 4 4) (imm.extractLsb' 0 4)]
  | .ext8F imm => [op 0x8 0xF (imm.extractLsb' 4 4) (imm.extractLsb' 0 4)]
  | .ldbShort d imm => [op 0xC d (imm.extractLsb' 4 4) (imm.extractLsb' 0 4)]
  | .calr disp => [op 0xD (disp.extractLsb' 8 4) (disp.extractLsb' 4 4) (disp.extractLsb' 0 4)]
  | .jr c disp => [op 0xE c (disp.extractLsb' 4 4) (disp.extractLsb' 0 4)]
  | .dbjnz d disp => [op 0xF d (0#1 ++ disp.extractLsb' 4 3) (disp.extractLsb' 0 4)]
  | .djnz d disp => [op 0xF d (1#1 ++ disp.extractLsb' 4 3) (disp.extractLsb' 0 4)]
  | .undefined w => [w]

/-- The `i`-th word of a list, 0 past its end. -/
def wordAt (ws : List Word) (i : Nat) : Word := (ws[i]?).getD 0

/-- `decode` on the head of a list of words. -/
def decodeWords (seg : Bool) (ws : List Word) : Instr :=
  decode seg (wordAt ws 0) (wordAt ws 1) (wordAt ws 2) (wordAt ws 3)

/-- Why a list of bytes is not an instruction: it ends before the instruction does (R133). -/
inductive DecodeError where
  | truncated (needed present : Nat)
  deriving DecidableEq, Repr

/-- R93, R99: the words of a list of bytes, each high byte first; a last odd byte makes no word. -/
def wordsOfBytes : List Byte → List Word
  | hi :: lo :: rest => (hi ++ lo) :: wordsOfBytes rest
  | _ => []

/-- R93: the bytes of a word, high byte first. -/
def bytesOfWord (w : Word) : List Byte := [w.extractLsb' 8 8, w.extractLsb' 0 8]

/-- The instruction at the head of a list of bytes, with the bytes after it; a list that ends before the instruction
does is rejected by name. -/
def decodeBytes (seg : Bool) (bs : List Byte) : Except DecodeError (Instr × List Byte) :=
  let ws := wordsOfBytes bs
  let i := decodeWords seg ws
  let n := 1 + i.extWords
  if ws.length < n then .error (.truncated n ws.length) else .ok (i, bs.drop (2 * n))

/-- The four words of an instruction numbered as spec/opcode_table.json numbers its bits: bit 0 is the least significant
bit of the first word and a later word's bits count on from it; bits from `nbits` on are 0. -/
def tableWords (nbits w : Nat) : List Word :=
  let v := w % 2 ^ nbits
  [BitVec.ofNat 16 v, BitVec.ofNat 16 (v / 2 ^ 16), BitVec.ofNat 16 (v / 2 ^ 32), BitVec.ofNat 16 (v / 2 ^ 48)]

/-- The instruction the decoder reads, in non-segmented mode, from the words `tableWords` gives, laid out as bytes. -/
def decodeTableWord (nbits w : Nat) : Option Instr :=
  match decodeBytes false ((tableWords nbits w).flatMap bytesOfWord) with
  | .ok (i, _) => some i
  | .error _ => none

/-- The row of spec/opcode_table.json, counted from 0, that an instruction stands for: its dispatch entry (R720). An
LDA in IR mode, which no encoding has, is given the number after the last row. -/
def Instr.entry : Instr → Nat
  | .addb _ (.imm _) => 0
  | .addb _ (.mem (.ir _)) => 1
  | .addb _ (.mem (.da _)) => 2
  | .addb _ (.mem (.x _ _)) => 3
  | .addb _ (.reg _) => 4
  | .add _ (.imm _) => 5
  | .add _ (.mem (.ir _)) => 6
  | .add _ (.mem (.da _)) => 7
  | .add _ (.mem (.x _ _)) => 8
  | .add _ (.reg _) => 9
  | .subb _ (.imm _) => 10
  | .subb _ (.mem (.ir _)) => 11
  | .subb _ (.mem (.da _)) => 12
  | .subb _ (.mem (.x _ _)) => 13
  | .subb _ (.reg _) => 14
  | .sub _ (.imm _) => 15
  | .sub _ (.mem (.ir _)) => 16
  | .sub _ (.mem (.da _)) => 17
  | .sub _ (.mem (.x _ _)) => 18
  | .sub _ (.reg _) => 19
  | .orb _ (.imm _) => 20
  | .orb _ (.mem (.ir _)) => 21
  | .orb _ (.mem (.da _)) => 22
  | .orb _ (.mem (.x _ _)) => 23
  | .orb _ (.reg _) => 24
  | .or _ (.imm _) => 25
  | .or _ (.mem (.ir _)) => 26
  | .or _ (.mem (.da _)) => 27
  | .or _ (.mem (.x _ _)) => 28
  | .or _ (.reg _) => 29
  | .andb _ (.imm _) => 30
  | .andb _ (.mem (.ir _)) => 31
  | .andb _ (.mem (.da _)) => 32
  | .andb _ (.mem (.x _ _)) => 33
  | .andb _ (.reg _) => 34
  | .and _ (.imm _) => 35
  | .and _ (.mem (.ir _)) => 36
  | .and _ (.mem (.da _)) => 37
  | .and _ (.mem (.x _ _)) => 38
  | .and _ (.reg _) => 39
  | .xorb _ (.imm _) => 40
  | .xorb _ (.mem (.ir _)) => 41
  | .xorb _ (.mem (.da _)) => 42
  | .xorb _ (.mem (.x _ _)) => 43
  | .xorb _ (.reg _) => 44
  | .xor _ (.imm _) => 45
  | .xor _ (.mem (.ir _)) => 46
  | .xor _ (.mem (.da _)) => 47
  | .xor _ (.mem (.x _ _)) => 48
  | .xor _ (.reg _) => 49
  | .cpb _ (.imm _) => 50
  | .cpb _ (.mem (.ir _)) => 51
  | .cpb _ (.mem (.da _)) => 52
  | .cpb _ (.mem (.x _ _)) => 53
  | .cpb _ (.reg _) => 54
  | .cp _ (.imm _) => 55
  | .cp _ (.mem (.ir _)) => 56
  | .cp _ (.mem (.da _)) => 57
  | .cp _ (.mem (.x _ _)) => 58
  | .cp _ (.reg _) => 59
  | .cpl _ (.imm _) => 60
  | .cpl _ (.mem (.ir _)) => 61
  | .cpl _ (.mem (.da _)) => 62
  | .cpl _ (.mem (.x _ _)) => 63
  | .cpl _ (.reg _) => 64
  | .subl _ (.imm _) => 65
  | .subl _ (.mem (.ir _)) => 66
  | .subl _ (.mem (.da _)) => 67
  | .subl _ (.mem (.x _ _)) => 68
  | .subl _ (.reg _) => 69
  | .ldlIM _ _ => 70
  | .ldlMem _ (.mem (.ir _)) => 71
  | .ldlMem _ (.mem (.da _)) => 72
  | .ldlMem _ (.mem (.x _ _)) => 73
  | .ldlR _ _ => 74
  | .addl _ (.imm _) => 75
  | .addl _ (.mem (.ir _)) => 76
  | .addl _ (.mem (.da _)) => 77
  | .addl _ (.mem (.x _ _)) => 78
  | .addl _ (.reg _) => 79
  | .multl _ (.imm _) => 80
  | .multl _ (.mem (.ir _)) => 81
  | .multl _ (.mem (.da _)) => 82
  | .multl _ (.mem (.x _ _)) => 83
  | .multl _ (.reg _) => 84
  | .mult _ (.imm _) => 85
  | .mult _ (.mem (.ir _)) => 86
  | .mult _ (.mem (.da _)) => 87
  | .mult _ (.mem (.x _ _)) => 88
  | .mult _ (.reg _) => 89
  | .divl _ (.imm _) => 90
  | .divl _ (.mem (.ir _)) => 91
  | .divl _ (.mem (.da _)) => 92
  | .divl _ (.mem (.x _ _)) => 93
  | .divl _ (.reg _) => 94
  | .div _ (.imm _) => 95
  | .div _ (.mem (.ir _)) => 96
  | .div _ (.mem (.da _)) => 97
  | .div _ (.mem (.x _ _)) => 98
  | .div _ (.reg _) => 99
  | .ldbIM _ _ => 100
  | .ldbMem _ (.mem (.ir _)) => 101
  | .ldbMem _ (.mem (.da _)) => 102
  | .ldbMem _ (.mem (.x _ _)) => 103
  | .ldbR _ _ => 104
  | .ldIM _ _ => 105
  | .ldMem _ (.mem (.ir _)) => 106
  | .ldMem _ (.mem (.da _)) => 107
  | .ldMem _ (.mem (.x _ _)) => 108
  | .ldR _ _ => 109
  | .adcb _ _ => 110
  | .adc _ _ => 111
  | .sbcb _ _ => 112
  | .sbc _ _ => 113
  | .comb (.mem (.ir _)) => 114
  | .comb (.mem (.da _)) => 115
  | .comb (.mem (.x _ _)) => 116
  | .comb (.reg _) => 117
  | .com (.mem (.ir _)) => 118
  | .com (.mem (.da _)) => 119
  | .com (.mem (.x _ _)) => 120
  | .com (.reg _) => 121
  | .cpbImm (.ir _) _ => 122
  | .cpbImm (.da _) _ => 123
  | .cpbImm (.x _ _) _ => 124
  | .cpImm (.ir _) _ => 125
  | .cpImm (.da _) _ => 126
  | .cpImm (.x _ _) _ => 127
  | .negb (.mem (.ir _)) => 128
  | .negb (.mem (.da _)) => 129
  | .negb (.mem (.x _ _)) => 130
  | .negb (.reg _) => 131
  | .neg (.mem (.ir _)) => 132
  | .neg (.mem (.da _)) => 133
  | .neg (.mem (.x _ _)) => 134
  | .neg (.reg _) => 135
  | .testb (.mem (.ir _)) => 136
  | .testb (.mem (.da _)) => 137
  | .testb (.mem (.x _ _)) => 138
  | .testb (.reg _) => 139
  | .test (.mem (.ir _)) => 140
  | .test (.mem (.da _)) => 141
  | .test (.mem (.x _ _)) => 142
  | .test (.reg _) => 143
  | .ldbImm (.ir _) _ => 144
  | .ldbImm (.da _) _ => 145
  | .ldbImm (.x _ _) _ => 146
  | .ldImm (.ir _) _ => 147
  | .ldImm (.da _) _ => 148
  | .ldImm (.x _ _) _ => 149
  | .tsetb (.mem (.ir _)) => 150
  | .tsetb (.mem (.da _)) => 151
  | .tsetb (.mem (.x _ _)) => 152
  | .tsetb (.reg _) => 153
  | .tset (.mem (.ir _)) => 154
  | .tset (.mem (.da _)) => 155
  | .tset (.mem (.x _ _)) => 156
  | .tset (.reg _) => 157
  | .clrb (.mem (.ir _)) => 158
  | .clrb (.mem (.da _)) => 159
  | .clrb (.mem (.x _ _)) => 160
  | .clrb (.reg _) => 161
  | .clr (.mem (.ir _)) => 162
  | .clr (.mem (.da _)) => 163
  | .clr (.mem (.x _ _)) => 164
  | .clr (.reg _) => 165
  | .push _ (.imm _) => 166
  | .ldctlbRead _ => 167
  | .ldctlbWrite _ => 168
  | .setflg _ => 169
  | .resflg _ => 170
  | .comflg _ => 171
  | .nop => 172
  | .testl (.mem (.ir _)) => 173
  | .testl (.mem (.da _)) => 174
  | .testl (.mem (.x _ _)) => 175
  | .testl (.reg _) => 176
  | .ldm _ (.ir _) _ => 177
  | .ldmTo (.ir _) _ _ => 178
  | .ldm _ (.da _) _ => 179
  | .ldm _ (.x _ _) _ => 180
  | .ldmTo (.da _) _ _ => 181
  | .ldmTo (.x _ _) _ _ => 182
  | .ldlTo (.mem (.ir _)) _ => 183
  | .ldlTo (.mem (.da _)) _ => 184
  | .ldlTo (.mem (.x _ _)) _ => 185
  | .jp _ (.ir _) => 186
  | .jp _ (.da _) => 187
  | .jp _ (.x _ _) => 188
  | .ret _ => 189
  | .call (.ir _) => 190
  | .call (.da _) => 191
  | .call (.x _ _) => 192
  | .pushl _ (.mem (.ir _)) => 193
  | .pushl _ (.mem (.da _)) => 194
  | .pushl _ (.mem (.x _ _)) => 195
  | .pushl _ (.reg _) => 196
  | .push _ (.mem (.ir _)) => 197
  | .push _ (.mem (.da _)) => 198
  | .push _ (.mem (.x _ _)) => 199
  | .push _ (.reg _) => 200
  | .popl (.mem (.ir _)) _ => 201
  | .popl (.mem (.da _)) _ => 202
  | .popl (.mem (.x _ _)) _ => 203
  | .popl (.reg _) _ => 204
  | .pop (.mem (.ir _)) _ => 205
  | .pop (.mem (.da _)) _ => 206
  | .pop (.mem (.x _ _)) _ => 207
  | .pop (.reg _) _ => 208
  | .resb (.mem (.ir _)) _ => 209
  | .resb (.mem (.da _)) _ => 210
  | .resb (.mem (.x _ _)) _ => 211
  | .resb (.reg _) _ => 212
  | .resbDyn _ _ => 213
  | .res (.mem (.ir _)) _ => 214
  | .res (.mem (.da _)) _ => 215
  | .res (.mem (.x _ _)) _ => 216
  | .res (.reg _) _ => 217
  | .resDyn _ _ => 218
  | .setb (.mem (.ir _)) _ => 219
  | .setb (.mem (.da _)) _ => 220
  | .setb (.mem (.x _ _)) _ => 221
  | .setb (.reg _) _ => 222
  | .setbDyn _ _ => 223
  | .set (.mem (.ir _)) _ => 224
  | .set (.mem (.da _)) _ => 225
  | .set (.mem (.x _ _)) _ => 226
  | .set (.reg _) _ => 227
  | .setDyn _ _ => 228
  | .bitb (.mem (.ir _)) _ => 229
  | .bitb (.mem (.da _)) _ => 230
  | .bitb (.mem (.x _ _)) _ => 231
  | .bitb (.reg _) _ => 232
  | .bitbDyn _ _ => 233
  | .bit (.mem (.ir _)) _ => 234
  | .bit (.mem (.da _)) _ => 235
  | .bit (.mem (.x _ _)) _ => 236
  | .bit (.reg _) _ => 237
  | .bitDyn _ _ => 238
  | .incb (.mem (.ir _)) _ => 239
  | .incb (.mem (.da _)) _ => 240
  | .incb (.mem (.x _ _)) _ => 241
  | .incb (.reg _) _ => 242
  | .inc (.mem (.ir _)) _ => 243
  | .inc (.mem (.da _)) _ => 244
  | .inc (.mem (.x _ _)) _ => 245
  | .inc (.reg _) _ => 246
  | .decb (.mem (.ir _)) _ => 247
  | .decb (.mem (.da _)) _ => 248
  | .decb (.mem (.x _ _)) _ => 249
  | .decb (.reg _) _ => 250
  | .dec (.mem (.ir _)) _ => 251
  | .dec (.mem (.da _)) _ => 252
  | .dec (.mem (.x _ _)) _ => 253
  | .dec (.reg _) _ => 254
  | .exb _ (.mem (.ir _)) => 255
  | .exb _ (.mem (.da _)) => 256
  | .exb _ (.mem (.x _ _)) => 257
  | .exb _ (.reg _) => 258
  | .ex _ (.mem (.ir _)) => 259
  | .ex _ (.mem (.da _)) => 260
  | .ex _ (.mem (.x _ _)) => 261
  | .ex _ (.reg _) => 262
  | .ldbTo (.mem (.ir _)) _ => 263
  | .ldbTo (.mem (.da _)) _ => 264
  | .ldbTo (.mem (.x _ _)) _ => 265
  | .ldTo (.mem (.ir _)) _ => 266
  | .ldTo (.mem (.da _)) _ => 267
  | .ldTo (.mem (.x _ _)) _ => 268
  | .tccb _ _ => 269
  | .tcc _ _ => 270
  | .ldrbLoad _ _ => 271
  | .ldbMem _ (.ba _ _) => 272
  | .ldrLoad _ _ => 273
  | .ldMem _ (.ba _ _) => 274
  | .ldrbStore _ _ => 275
  | .ldbTo (.ba _ _) _ => 276
  | .ldrStore _ _ => 277
  | .ldTo (.ba _ _) _ => 278
  | .ldar _ _ => 279
  | .lda _ (.ba _ _) => 280
  | .ldrlLoad _ _ => 281
  | .ldlMem _ (.ba _ _) => 282
  | .ldrlStore _ _ => 283
  | .ldlTo (.ba _ _) _ => 284
  | .ldbMem _ (.bx _ _) => 285
  | .ldMem _ (.bx _ _) => 286
  | .ldbTo (.bx _ _) _ => 287
  | .ldTo (.bx _ _) _ => 288
  | .lda _ (.bx _ _) => 289
  | .ldlMem _ (.bx _ _) => 290
  | .ldlTo (.bx _ _) _ => 291
  | .lda _ (.mem (.da _)) => 292
  | .lda _ (.mem (.x _ _)) => 293
  | .ldps (.ir _) => 294
  | .ldps (.da _) => 295
  | .ldps (.x _ _) => 296
  | .dab _ => 297
  | .extsb _ => 298
  | .extsl _ => 299
  | .exts _ => 300
  | .rlb _ false => 301
  | .rl _ false => 302
  | .rlb _ true => 303
  | .rl _ true => 304
  | .rrb _ false => 305
  | .rr _ false => 306
  | .rrb _ true => 307
  | .rr _ true => 308
  | .rlcb _ false => 309
  | .rlc _ false => 310
  | .rlcb _ true => 311
  | .rlc _ true => 312
  | .rrcb _ false => 313
  | .rrc _ false => 314
  | .rrcb _ true => 315
  | .rrc _ true => 316
  | .sllb _ _ => 317
  | .slab _ _ => 318
  | .sdlb _ _ => 319
  | .sdab _ _ => 320
  | .sll _ _ => 321
  | .sla _ _ => 322
  | .sdl _ _ => 323
  | .sda _ _ => 324
  | .slll _ _ => 325
  | .slal _ _ => 326
  | .sdll _ _ => 327
  | .sdal _ _ => 328
  | .trib _ _ _ => 329
  | .trirb _ _ _ => 330
  | .trdb _ _ _ => 331
  | .trdrb _ _ _ => 332
  | .trtib _ _ _ => 333
  | .trtirb _ _ _ => 334
  | .trtdb _ _ _ => 335
  | .trtdrb _ _ _ => 336
  | .cpib _ _ _ _ => 337
  | .cpi _ _ _ _ => 338
  | .cpirb _ _ _ _ => 339
  | .cpir _ _ _ _ => 340
  | .cpdb _ _ _ _ => 341
  | .cpd _ _ _ _ => 342
  | .cpdrb _ _ _ _ => 343
  | .cpdr _ _ _ _ => 344
  | .cpsib _ _ _ _ => 345
  | .cpsi _ _ _ _ => 346
  | .cpsirb _ _ _ _ => 347
  | .cpsir _ _ _ _ => 348
  | .cpsdb _ _ _ _ => 349
  | .cpsd _ _ _ _ => 350
  | .cpsdrb _ _ _ _ => 351
  | .cpsdr _ _ _ _ => 352
  | .ldib _ _ _ => 353
  | .ldi _ _ _ => 354
  | .ldirb _ _ _ => 355
  | .ldir _ _ _ => 356
  | .lddb _ _ _ => 357
  | .ldd _ _ _ => 358
  | .lddrb _ _ _ => 359
  | .lddr _ _ _ => 360
  | .rrdb _ _ => 361
  | .ldk _ _ => 362
  | .rldb _ _ => 363
  | .ini _ _ _ => 364
  | .inib _ _ _ => 365
  | .inir _ _ _ => 366
  | .inirb _ _ _ => 367
  | .ind _ _ _ => 368
  | .indb _ _ _ => 369
  | .indr _ _ _ => 370
  | .indrb _ _ _ => 371
  | .outi _ _ _ => 372
  | .outib _ _ _ => 373
  | .otir _ _ _ => 374
  | .otirb _ _ _ => 375
  | .outd _ _ _ => 376
  | .outdb _ _ _ => 377
  | .otdr _ _ _ => 378
  | .otdrb _ _ _ => 379
  | .sini _ _ _ => 380
  | .sinib _ _ _ => 381
  | .sinir _ _ _ => 382
  | .sinirb _ _ _ => 383
  | .sind _ _ _ => 384
  | .sindb _ _ _ => 385
  | .sindr _ _ _ => 386
  | .sindrb _ _ _ => 387
  | .souti _ _ _ => 388
  | .soutib _ _ _ => 389
  | .sotir _ _ _ => 390
  | .sotirb _ _ _ => 391
  | .soutd _ _ _ => 392
  | .soutdb _ _ _ => 393
  | .sotdr _ _ _ => 394
  | .sotdrb _ _ _ => 395
  | .inw _ (.da _) => 396
  | .inb _ (.da _) => 397
  | .sin _ _ => 398
  | .sinb _ _ => 399
  | .outw (.da _) _ => 400
  | .outb (.da _) _ => 401
  | .sout _ _ => 402
  | .soutb _ _ => 403
  | .inb _ (.ir _) => 404
  | .inw _ (.ir _) => 405
  | .outb (.ir _) _ => 406
  | .outw (.ir _) _ => 407
  | .halt => 408
  | .iret => 409
  | .mset => 410
  | .mres => 411
  | .mbit => 412
  | .mreq _ => 413
  | .di _ _ => 414
  | .ei _ _ => 415
  | .ldctlRead _ _ => 416
  | .ldctlWrite _ _ => 417
  | .sc _ => 418
  | .ext0E _ => 419
  | .ext0F _ => 420
  | .ext4E _ => 421
  | .ext4F _ => 422
  | .ext8E _ => 423
  | .ext8F _ => 424
  | .ldbShort _ _ => 425
  | .calr _ => 426
  | .jr _ _ => 427
  | .dbjnz _ _ => 428
  | .djnz _ _ => 429
  | .undefined _ => 430
  | .lda _ (.mem (.ir _)) => 431

end Sys2Proof
end

