-- ==== Sys2Proof/Machine/Flags.lean ====
section
/-!
DEFINITION. The bits of FCW (10_state.md rule R43), the condition codes (30_encoding.md rule R160), and the results
and flags of the arithmetic, logical, shift, rotate and decimal operations, as functions of their operands
(41_arithmetic.md, 42_logical_bit.md, 43_shift_rotate.md).
-/

namespace Sys2Proof.Machine

open Sys2Proof

/-! ### FCW -/

/-- R43: carry. -/
def flagC (f : Word) : Bool := f.getLsbD 7

/-- R43: zero. -/
def flagZ (f : Word) : Bool := f.getLsbD 6

/-- R43: sign. -/
def flagS (f : Word) : Bool := f.getLsbD 5

/-- R43: parity or overflow. -/
def flagPV (f : Word) : Bool := f.getLsbD 4

/-- R43: decimal adjust. -/
def flagDA (f : Word) : Bool := f.getLsbD 3

/-- R43: half carry. -/
def flagH (f : Word) : Bool := f.getLsbD 2

/-- R43: segmented-mode enable. -/
def fcwSeg (f : Word) : Bool := f.getLsbD 15

/-- R43, R48: system mode. -/
def fcwSystem (f : Word) : Bool := f.getLsbD 14

/-- R43, R49: vectored-interrupt enable. -/
def fcwVie (f : Word) : Bool := f.getLsbD 12

/-- R43, R49: non-vectored-interrupt enable. -/
def fcwNvie (f : Word) : Bool := f.getLsbD 11

/-- R46 `FCW_MASK`: the bits of FCW that a whole-FCW write stores. -/
def fcwMask : Variant → Word
  | .z8001 => 0xF8FC
  | .z8002 => 0x78FC

/-- Bit `i` of `w` becomes `b`. -/
def putBit {n : Nat} (w : BitVec n) (i : Nat) (b : Bool) : BitVec n :=
  if b then w ||| (1#n <<< i) else w &&& ~~~(1#n <<< i)

/-- Which flags an instruction writes, and with what (R200: a flag not named is unchanged). -/
structure FlagUpdate where
  c  : Option Bool := none
  z  : Option Bool := none
  s  : Option Bool := none
  pv : Option Bool := none
  da : Option Bool := none
  h  : Option Bool := none
  deriving DecidableEq, Repr

/-- Bit `i` of `w` becomes what `o` holds; it is unchanged if `o` holds nothing. -/
def putFlag (o : Option Bool) (i : Nat) (w : Word) : Word :=
  match o with
  | none => w
  | some b => putBit w i b

/-- FCW with the flags of an update written. -/
def FlagUpdate.apply (u : FlagUpdate) (f : Word) : Word :=
  putFlag u.c 7 (putFlag u.z 6 (putFlag u.s 5 (putFlag u.pv 4 (putFlag u.da 3 (putFlag u.h 2 f)))))

/-- R160: the condition `c` on the flags of `f`. -/
def cc (c : CondCode) (f : Word) : Bool :=
  let base : Bool :=
    match c.extractLsb' 0 3 with
    | 0 => false
    | 1 => flagS f ^^ flagPV f
    | 2 => flagZ f || (flagS f ^^ flagPV f)
    | 3 => flagC f || flagZ f
    | 4 => flagPV f
    | 5 => flagS f
    | 6 => flagZ f
    | _ => flagC f
  base ^^ c.getLsbD 3

/-! ### Arithmetic (R250) -/

/-- The result of an addition or subtraction with its carry or borrow, overflow and half carry. -/
structure Sum (n : Nat) where
  r : BitVec n
  c : Bool
  v : Bool
  h : Bool

/-- R250: the zero flag of a result. -/
def isZero {n : Nat} (r : BitVec n) : Bool := r == 0#n

/-- R250 `parity8`: the number of 1 bits in bits 7:0 is even. -/
def parity8 {n : Nat} (r : BitVec n) : Bool :=
  !(r.getLsbD 0 ^^ r.getLsbD 1 ^^ r.getLsbD 2 ^^ r.getLsbD 3 ^^
    r.getLsbD 4 ^^ r.getLsbD 5 ^^ r.getLsbD 6 ^^ r.getLsbD 7)

/-- R250 `add(N, a, b, ci)`. -/
def addC {n : Nat} (a b : BitVec n) (ci : Bool) : Sum n :=
  let t := a.toNat + b.toNat + ci.toNat
  let r := BitVec.ofNat n t
  { r := r
    c := decide (2 ^ n ≤ t)
    v := a.msb == b.msb && r.msb != a.msb
    h := decide (16 ≤ a.toNat % 16 + b.toNat % 16 + ci.toNat) }

/-- R250 `sub(N, a, b, ci)`. -/
def subC {n : Nat} (a b : BitVec n) (ci : Bool) : Sum n :=
  let t : Int := (a.toNat : Int) - (b.toNat : Int) - (ci.toNat : Int)
  let r := BitVec.ofInt n t
  { r := r
    c := decide (t < 0)
    v := a.msb != b.msb && r.msb != a.msb
    h := decide (a.toNat % 16 < b.toNat % 16 + ci.toNat) }

/-- R250 "set flags (C, Z, S, V)". -/
def Sum.flags {n : Nat} (t : Sum n) : FlagUpdate where
  c := some t.c
  z := some (isZero t.r)
  s := some t.r.msb
  pv := some t.v

/-- The flags of a byte addition (`da` false) or subtraction (`da` true) also record H and DA (R252, R257). -/
def Sum.byteFlags {n : Nat} (t : Sum n) (da : Bool) : FlagUpdate :=
  { t.flags with h := some t.h, da := some da }

/-- R268 to R271: an increment or decrement writes Z, S and PV only. -/
def Sum.countFlags {n : Nat} (t : Sum n) : FlagUpdate :=
  { t.flags with c := none }

/-- R266, R267: negation and its flags. -/
def negate {n : Nat} (x : BitVec n) : BitVec n × FlagUpdate :=
  let r := 0#n - x
  (r, { c := some (x != 0#n), z := some (isZero r), s := some r.msb, pv := some (x == BitVec.intMin n) })

/-- R272, R273: the signed product of two `n`-bit values as `m` bits, and its flags. -/
def multiply {n : Nat} (m : Nat) (a b : BitVec n) : BitVec m × FlagUpdate :=
  let p := a.toInt * b.toInt
  (BitVec.ofInt m p,
    { c := some (decide (p < -(2 ^ (n - 1) : Int) ∨ (2 ^ (n - 1) : Int) ≤ p)),
      z := some (decide (p = 0)), s := some (decide (p < 0)), pv := some false })

/-- R282: the quotient and the remainder of a division that neither divides by zero nor overflows. -/
def divide {n m : Nat} (a : BitVec m) (b : BitVec n) : Option (Int × Int) :=
  if b.toInt = 0 then none
  else
    let q := Int.tdiv a.toInt b.toInt
    if -(2 ^ (n - 1) : Int) ≤ q ∧ q < (2 ^ (n - 1) : Int) then some (q, Int.tmod a.toInt b.toInt) else none

/-- R282: the flags of a normal division with quotient `q`. -/
def quotientFlags (q : Int) : FlagUpdate where
  c := some false
  z := some (decide (q = 0))
  s := some (decide (q < 0))
  pv := some false

/-! ### Logical (R300) -/

/-- R300 for bytes. -/
def logicFlagsB (r : Byte) : FlagUpdate where
  z := some (isZero r)
  s := some r.msb
  pv := some (parity8 r)

/-- R300 for words and longs, under `WORD_LOGIC_PV`. -/
def logicFlagsW {n : Nat} (p : WordLogicPv) (r : BitVec n) : FlagUpdate where
  z := some (isZero r)
  s := some r.msb
  pv := match p with
    | .parityLowByte => some (parity8 r)
    | .unchanged => none

/-- R229 `byte_load_flags`, under `BYTE_LOAD_FLAGS`. -/
def byteLoadFlags (p : ByteLoadFlags) (b : Byte) : FlagUpdate :=
  match p with
  | .zsp => logicFlagsB b
  | .none => {}

/-- R314, R315: TCC and TCCB on a destination of any width. -/
def testCondition {n : Nat} (p : TccFalse) (b : Bool) (x : BitVec n) : BitVec n :=
  if b then putBit x 0 true
  else match p with
    | .clear => putBit x 0 false
    | .keep => x

/-- R322 `bitmask_N(n)`: the mask of a dynamic bit number taken from the register value `v`. -/
def dynamicMask (p : BitdynBits) (n : Nat) (v : Word) : BitVec n :=
  match p with
  | .five => 1#n <<< (v.toNat % 32)
  | .zilog => 1#n <<< (v.toNat % n)

/-! ### Draws -/

/-- The free values of one instruction (R15 `draw`): each instruction uses those that its rule leaves open (log 4). -/
structure Draw where
  value : BitVec 64
  c     : Bool
  z     : Bool
  s     : Bool
  pv    : Bool
  mi    : Bool

/-- The parts of the 128 free bits. -/
def drawOf (d : BitVec 128) : Draw where
  value := d.extractLsb' 0 64
  c := d.getLsbD 64
  z := d.getLsbD 65
  s := d.getLsbD 66
  pv := d.getLsbD 67
  mi := d.getLsbD 68

/-- What DIV and DIVL leave (R282, R283): remainder, quotient, flags, and whether the division was by zero or
overflowed. -/
structure Division (n : Nat) where
  rem   : BitVec n
  quot  : BitVec n
  flags : FlagUpdate
  bad   : Bool

/-- R282, R283: after a division by zero or an overflow PV is 1 and the destination, C, Z and S are free. -/
def division {n m : Nat} (a : BitVec m) (b : BitVec n) (d : Draw) : Division n :=
  match divide a b with
  | some (q, r) => ⟨BitVec.ofInt n r, BitVec.ofInt n q, quotientFlags q, false⟩
  | none =>
    ⟨d.value.extractLsb' n n, d.value.extractLsb' 0 n,
      { c := some d.c, z := some d.z, s := some d.s, pv := some true }, true⟩

/-! ### Shifts and rotates (R340, R363, R364, R365) -/

/-- R340: a shift count is a signed byte, the low byte of `c`. -/
def shiftCount (c : Word) : Int := (lowByte c).toInt

/-- R364: PV of an operation whose sign bit was `s0` and which leaves the signs `path` after its single-bit steps, the
last of them the final one: whether the sign changed, free when it changed and changed back (log 19). -/
def signChange (s0 : Bool) (path : List Bool) (free : Bool) : Bool :=
  let final := path.getLast?.getD s0 != s0
  let anyStep := path.any (· != s0)
  if anyStep = final then final else free

/-- The signs after 1, 2, …, `k` single-bit steps of `f`. -/
def signPath {n : Nat} (f : Nat → BitVec n) (k : Nat) : List Bool :=
  (List.range k).map fun j => (f (j + 1)).msb

/-- R363 to R365: the shift of `x` by the signed count `n`, arithmetic or logical, with the flags it writes. -/
def shift {w : Nat} (arith : Bool) (x : BitVec w) (n : Int) (d : Draw) : BitVec w × FlagUpdate :=
  if n = 0 then
    (x, { c := some d.c, z := some (isZero x), s := some x.msb, pv := some (if arith then false else d.pv) })
  else if w < n.natAbs then
    (d.value.setWidth w, { c := some d.c, z := some d.z, s := some d.s, pv := some d.pv })
  else if 0 < n then
    let k := n.natAbs
    let r := x <<< k
    (r, { c := some (x.getLsbD (w - k)), z := some (isZero r), s := some r.msb,
          pv := some (if arith then signChange x.msb (signPath (x <<< ·) k) d.pv else d.pv) })
  else
    let k := n.natAbs
    let r := if arith then x.sshiftRight k else x >>> k
    (r, { c := some (x.getLsbD (k - 1)), z := some (isZero r), s := some r.msb,
          pv := some (if arith then false else d.pv) })

/-- The count of a rotate: 1, or 2 (R340). -/
def rotateCount (two : Bool) : Nat := if two then 2 else 1

/-- R341, R342: RL and RLB. -/
def rotateLeft {w : Nat} (x : BitVec w) (k : Nat) (d : Draw) : BitVec w × FlagUpdate :=
  let r := x.rotateLeft k
  (r, { c := some (r.getLsbD 0), z := some (isZero r), s := some r.msb,
        pv := some (signChange x.msb (signPath (x.rotateLeft ·) k) d.pv) })

/-- R345, R346: RR and RRB. -/
def rotateRight {w : Nat} (x : BitVec w) (k : Nat) (d : Draw) : BitVec w × FlagUpdate :=
  let r := x.rotateRight k
  (r, { c := some r.msb, z := some (isZero r), s := some r.msb,
        pv := some (signChange x.msb (signPath (x.rotateRight ·) k) d.pv) })

/-- R343, R344: RLC and RLCB rotate the carry and the operand as one value of one more bit. -/
def rotateLeftCarry {w : Nat} (x : BitVec w) (ci : Bool) (k : Nat) (d : Draw) : BitVec w × FlagUpdate :=
  let y : BitVec (1 + w) := BitVec.ofBool ci ++ x
  let f := fun j => (y.rotateLeft j).setWidth w
  let r := f k
  (r, { c := some (y.rotateLeft k).msb, z := some (isZero r), s := some r.msb,
        pv := some (signChange x.msb (signPath f k) d.pv) })

/-- R347, R348: RRC and RRCB. -/
def rotateRightCarry {w : Nat} (x : BitVec w) (ci : Bool) (k : Nat) (d : Draw) : BitVec w × FlagUpdate :=
  let y : BitVec (1 + w) := BitVec.ofBool ci ++ x
  let f := fun j => (y.rotateRight j).setWidth w
  let r := f k
  (r, { c := some (y.rotateRight k).msb, z := some (isZero r), s := some r.msb,
        pv := some (signChange x.msb (signPath f k) d.pv) })

/-! ### Decimal adjust (R290 to R292) -/

/-- R292: the algorithm of DAB on (value, C, H, DA): the adjusted byte and the new C. -/
def dabAlgorithm (v : Byte) (c h da : Bool) : Byte × Bool :=
  let lowfix := h || decide (9 < v.toNat % 16)
  let highfix := c || decide (0x99 < v.toNat)
  let corr : Byte := (if lowfix then 0x06 else 0) + (if highfix then 0x60 else 0)
  (if da then v - corr else v + corr, highfix)

/-- R291: the input is in a row of the table of valid BCD operations. -/
def dabListed (v : Byte) (c h da : Bool) : Bool :=
  let hi := v.toNat / 16
  let lo := v.toNat % 16
  match da, c, h with
  | false, false, false => true
  | false, false, true => decide (lo ≤ 3)
  | false, true, false => decide (hi ≤ 2)
  | false, true, true => decide (hi ≤ 3) && decide (lo ≤ 3)
  | true, false, false => decide (hi ≤ 9) && decide (lo ≤ 9)
  | true, false, true => decide (hi ≤ 8) && decide (6 ≤ lo)
  | true, true, false => decide (7 ≤ hi) && decide (lo ≤ 9)
  | true, true, true => decide (6 ≤ hi) && decide (6 ≤ lo)

/-- R290, R292: DAB under `DAB_NONBCD`; the rows of R291 are fixed. -/
def dab (p : DabNonBcd) (v : Byte) (c h da : Bool) : Byte × Bool :=
  match p with
  | .algorithm => dabAlgorithm v c h da
  | .other => if dabListed v c h da then dabAlgorithm v c h da else Config.dabOther v c h da

end Sys2Proof.Machine
end

