-- ==== Sys2Proof/Machine/State.lean ====
section
/-!
DEFINITION. The state of the machine as plain data (10_state.md), why a step can stop, and the state after reset.
-/

namespace Sys2Proof.Machine

open Sys2Proof

/-- Memory (20_memory.md rule R90) as pairs of address and byte. Its canonical form, `Memory.wf`, has the addresses
strictly rising and no byte 0, which is what an unlisted address reads as (log 14). -/
abbrev Memory := List Host.Cell

/-- The latched requests of R58 and R600. NVI and VI are levels and have no bit here (R606). -/
structure Requests where
  reset   : Bool
  epu     : Bool
  trap    : Bool
  syscall : Bool
  segtrap : Bool
  nmi     : Bool
  deriving DecidableEq, Repr

/-- R91: the three roles in which the memory bus is used. This spec binds them to one memory; an access keeps its role
because the bus adaptor may tell one from another (log 20). -/
inductive Role where
  | program
  | data
  | stack
  deriving DecidableEq, Repr

/-- R92: what the core asks of the memory bus, with the role of the access (R91), and of the I/O bus, with its mode. -/
inductive Access where
  | read (role : Role)
  | write (role : Role)
  | input (mode : IoMode)
  | output (mode : IoMode)
  deriving DecidableEq, Repr

/-- R104, R608: one access during which the host's bus adaptor requests SEGTRAP. A memory access is named by its byte,
an I/O access by its port. A read of the byte answers the placeholder `value` (U21); `value` has no part in the
others. -/
structure Guard where
  access : Access
  addr   : Nat
  value  : Byte
  deriving DecidableEq, Repr

/-- The machine (INVENTORY.md, "State", lists each field with its rule). -/
structure State where
  /-- The parameters of R2 and R10, fixed for the life of the machine (log 1). -/
  cfg         : Params
  /-- R30: the sixteen word registers. -/
  regs        : Vector Word 16
  /-- R39: the program counter. -/
  pc          : Addr
  /-- R42: the address of the instruction now running, or of the last one that ran. -/
  ppc         : Addr
  /-- R43: the flag and control word. -/
  fcw         : Word
  /-- R52: the program-status-area pointer, segment word. -/
  psapSeg     : Word
  /-- R52: the program-status-area pointer, offset. -/
  psapOff     : Word
  /-- R53: the other mode's stack pointer, segment word. -/
  nspSeg      : Word
  /-- R53: the other mode's stack pointer, offset. -/
  nspOff      : Word
  /-- R54: the refresh register. -/
  refresh     : Word
  /-- R58: the latched requests. -/
  irqReq      : Requests
  /-- R59: the NMI line. -/
  nmiState    : Bool
  /-- R59: the NMI line before the host's latest write to it. -/
  nmiPrev     : Bool
  /-- R59 `irq_state[0]`: the non-vectored interrupt line. -/
  nviLine     : Bool
  /-- R59 `irq_state[1]`: the vectored interrupt line. -/
  viLine      : Bool
  /-- R60: the interrupt vector word the host supplies. -/
  irqVec      : Word
  /-- R61: the multi-micro flag. -/
  mi          : Bool
  /-- R62: the halt latch. -/
  halt        : Bool
  /-- R63: the operand slots. -/
  op          : Vector Word 4
  /-- R63, R131: how many operand slots the running instruction has filled. -/
  opValid     : Nat
  /-- R64: the cycles charged since reset. -/
  totalCycles : Nat
  /-- R64, R720: what is left of the budget of the current `run`. -/
  icount      : Int
  /-- R90: the contents of memory. -/
  mem         : Memory
  /-- The host's bus adaptor (R104, R608, U21): the accesses that it turns into a segmentation trap. The host may change
  it between steps (log 28). -/
  guards      : List Guard
  /-- The model's own: the I/O transactions so far, newest first; what the host answers to a read is a function of them
  (log 5). -/
  ioLog       : List IoEvent
  /-- The model's own: how many draws have been taken (log 4). -/
  draws       : Nat
  deriving DecidableEq, Repr

/-- Why a step stops: the encodings for which the spec gives no meaning (R15 `fault Undefined(reason)`; log 17). Both
are safe: the machine stops where the hardware would do something no source fixes. -/
inductive Fault where
  /-- R35, R137, R138: an odd register number where a pair is needed. Raised by every instruction with such a field. -/
  | oddPair
  /-- R36, R137: a quad field that is not a multiple of 4. Raised by MULTL, DIVL and EXTSL. -/
  | badQuad
  deriving DecidableEq, Repr

/-- Why an instruction has no meaning. -/
inductive Refusal where
  /-- An instruction the model has no meaning for. Safe. -/
  | notModelled (mnemonic : String)
  deriving DecidableEq, Repr

/-- R65: the state after the host calls `reset()`, with the parameters at their defaults: the RESET request pending,
its service (R702) still to come. Where R65 says "unwritten" or "unspecified" the value is the model's (logs 7 to 13,
28). -/
def State.reset : State where
  cfg         := {}
  regs        := Vector.replicate 16 0
  pc          := 0
  ppc         := 0
  fcw         := 0
  psapSeg     := 0
  psapOff     := 0
  nspSeg      := 0
  nspOff      := 0
  refresh     := 0
  irqReq      := ⟨true, false, false, false, false, false⟩
  nmiState    := false
  nmiPrev     := false
  nviLine     := false
  viLine      := false
  irqVec      := 0
  mi          := false
  halt        := false
  op          := Vector.replicate 4 0
  opValid     := 0
  totalCycles := 0
  icount      := 0
  mem         := []
  guards      := []
  ioLog       := []
  draws       := 0

end Sys2Proof.Machine
end

