-- ==== Sys2Proof/Machine/Ops.lean ====
section
/-!
DEFINITION. The named operations every instruction is written over: memory, registers and their views, addresses, FCW,
the operand fetch, the stack, the I/O bus, the free values, and taking an exception and returning from one
(10_state.md, 20_memory.md, 30_encoding.md, 40_data_movement.md rule R228, 60_exceptions.md, 70_reset_and_hazards.md).
-/

namespace Sys2Proof.Machine

open Sys2Proof

/-! ### Memory -/

/-- The byte at address `a`; 0 where nothing is listed (log 14). -/
def Memory.read : Memory → Nat → Byte
  | [], _ => 0
  | (b, v) :: m, a => if b = a then v else Memory.read m a

/-- Memory with address `a` no longer listed. -/
def Memory.erase : Memory → Nat → Memory
  | [], _ => []
  | (b, v) :: m, a => if b = a then Memory.erase m a else (b, v) :: Memory.erase m a

/-- Memory with the byte `v` listed at address `a`, before the first larger address. -/
def Memory.insert : Memory → Nat → Byte → Memory
  | [], a, v => [(a, v)]
  | (b, w) :: m, a, v => if a < b then (a, v) :: (b, w) :: m else (b, w) :: Memory.insert m a v

/-- The byte `v` written at address `a`; a 0 is not listed. -/
def Memory.write (m : Memory) (a : Nat) (v : Byte) : Memory :=
  if v = 0 then m.erase a else (m.erase a).insert a v

/-- Every listed address is at least `lo` and below `hi`, the addresses rise strictly and no listed byte is 0. -/
def Memory.wfFrom (hi : Nat) : Nat → Memory → Bool
  | _, [] => true
  | lo, (a, v) :: m => decide (lo ≤ a) && decide (a < hi) && v != 0 && Memory.wfFrom hi (a + 1) m

/-- The canonical form of a memory whose addresses are below `size`. -/
def Memory.wf (size : Nat) (m : Memory) : Bool := Memory.wfFrom size 0 m

/-- R90, R9: how many bytes the variant can address. -/
def memorySize : Variant → Nat
  | .z8001 => 2 ^ 23
  | .z8002 => 2 ^ 16

/-- R92: the bus masks the address it is given to the variant's width. -/
def State.physical (s : State) (a : Addr) : Nat := a.toNat % memorySize s.cfg.variant

/-- R94: a word access clears bit 0 of its address. -/
def wordAlign (a : Addr) : Addr := a &&& ~~~1#23

/-- R96 `addr_add(a, k)`: the offset wraps; the segment is kept on the Z8001 and zero on the Z8002. -/
def State.addrAdd (s : State) (a : Addr) (k : Word) : Addr :=
  match s.cfg.variant with
  | .z8001 => a.extractLsb' 16 7 ++ (a.extractLsb' 0 16 + k)
  | .z8002 => 0#7 ++ (a.extractLsb' 0 16 + k)

/-- The byte of memory that a byte access at `a` touches. -/
def State.byteCells (s : State) (a : Addr) : List Nat := [s.physical a]

/-- The bytes of memory that a word access at `a` touches (R93, R94). -/
def State.wordCells (s : State) (a : Addr) : List Nat :=
  [s.physical (wordAlign a), s.physical (wordAlign a ||| 1#23)]

/-- The bytes of memory that a long access at `a` touches (R98). -/
def State.longCells (s : State) (a : Addr) : List Nat :=
  s.wordCells (wordAlign a) ++ s.wordCells (s.addrAdd (wordAlign a) 2)

/-- R104, R608: the entry of the bus adaptor for the access `k` of the byte or port `n`. -/
def State.guardOf (s : State) (k : Access) (n : Nat) : Option Guard :=
  s.guards.find? fun g => decide (g.access = k) && decide (g.addr = n)

/-- The bus adaptor requests SEGTRAP during the access `k` of the byte or port `n`. -/
def State.guarded (s : State) (k : Access) (n : Nat) : Bool := (s.guardOf k n).isSome

/-- R104, R608: the bytes or ports `ns` are accessed; the bus adaptor may request SEGTRAP. -/
def State.access (s : State) (k : Access) (ns : List Nat) : State :=
  { s with irqReq := { s.irqReq with segtrap := s.irqReq.segtrap || ns.any (s.guarded k) } }

/-- R95 `MemRead(role, a, 1)`: the value, which is the placeholder where the bus adaptor requests SEGTRAP (R104). -/
def State.readByte (role : Role) (s : State) (a : Addr) : Byte :=
  match s.guardOf (.read role) (s.physical a) with
  | some g => g.value
  | none => s.mem.read (s.physical a)

/-- R93, R94 `MemRead(role, a, 2)`: big-endian, aligned. -/
def State.readWord (role : Role) (s : State) (a : Addr) : Word :=
  s.readByte role (wordAlign a) ++ s.readByte role (wordAlign a ||| 1#23)

/-- R95 `MemRead(role, a, 1)`: the access. -/
def State.touchByte (role : Role) (s : State) (a : Addr) : State := s.access (.read role) (s.byteCells a)

/-- R94 `MemRead(role, a, 2)`: the access. -/
def State.touchWord (role : Role) (s : State) (a : Addr) : State := s.access (.read role) (s.wordCells a)

/-- R98 `MemRead(role, a, 4)`: the accesses. -/
def State.touchLong (role : Role) (s : State) (a : Addr) : State := s.access (.read role) (s.longCells a)

/-- A byte put in memory by the host, on no bus of the core (R708). -/
def State.poke (s : State) (a : Addr) (v : Byte) : State := { s with mem := s.mem.write (s.physical a) v }

/-- R95 `MemWrite(role, a, 1, v)`: the other byte of the enclosing word is preserved. A write during which the bus
adaptor requests SEGTRAP completes (log 29). DEDUCED (log 31), unsafe for a claim about SEGTRAP: the one call
`write_word` of R95 is a write and no read, although R102 speaks of its read. -/
def State.writeByte (role : Role) (s : State) (a : Addr) (v : Byte) : State :=
  (s.access (.write role) (s.byteCells a)).poke a v

/-- R93, R94 `MemWrite(role, a, 2, v)`. -/
def State.writeWord (role : Role) (s : State) (a : Addr) (v : Word) : State :=
  (s.writeByte role (wordAlign a) (v.extractLsb' 8 8)).writeByte role (wordAlign a ||| 1#23) (v.extractLsb' 0 8)

/-! ### Addresses -/

/-- R12: a signed value in `n` bits, in the 16 bits of an offset. -/
def signExt {n : Nat} (v : BitVec n) : Word := v.signExtend 16

/-- R97 `seg_addr(hi, lo)`: the segment is bits 14:8 of the segment word. -/
def segAddr (hi lo : Word) : Addr := hi.extractLsb' 8 7 ++ lo

/-- R97 `seg_word(a)`. -/
def segWord (a : Addr) : Word := 1#1 ++ a.extractLsb' 16 7 ++ 0#8

/-- The offset of an address. -/
def offset (a : Addr) : Word := a.extractLsb' 0 16

/-- R97, R144 `nonseg_addr(off)`: on the Z8001 in the segment of `pc`. -/
def State.nonsegAddr (s : State) (off : Word) : Addr :=
  match s.cfg.variant with
  | .z8001 => s.pc.extractLsb' 16 7 ++ off
  | .z8002 => 0#7 ++ off

/-- R98 `MemRead(role, a, 4)`: two word accesses, high word first. -/
def State.readLong (role : Role) (s : State) (a : Addr) : Long :=
  s.readWord role (wordAlign a) ++ s.readWord role (s.addrAdd (wordAlign a) 2)

/-- R98 `MemWrite(role, a, 4, v)`. -/
def State.writeLong (role : Role) (s : State) (a : Addr) (v : Long) : State :=
  (s.writeWord role (wordAlign a) (v.extractLsb' 16 16)).writeWord role (s.addrAdd (wordAlign a) 2)
    (v.extractLsb' 0 16)

/-! ### Registers and their views -/

/-- R32 `R[n]`. -/
def State.reg (s : State) (n : Reg) : Word := s.regs[n.toNat]'n.isLt

/-- R32 `R[n] <- v`. -/
def State.setReg (s : State) (n : Reg) (v : Word) : State :=
  { s with regs := s.regs.set n.toNat v n.isLt }

/-- R33 `byte_loc(k)`: the word register and whether it is its high byte. -/
def byteLoc (p : ByteRegMap) (k : Reg) : Reg × Bool :=
  match p with
  | .pair => (k >>> 1, !k.getLsbD 0)
  | .zilog => (k &&& 7, !k.getLsbD 3)

/-- A half of a word. -/
def half (w : Word) (high : Bool) : Byte := if high then w.extractLsb' 8 8 else w.extractLsb' 0 8

/-- R34: one half of a word replaced. -/
def putHalf (w : Word) (high : Bool) (v : Byte) : Word :=
  if high then v ++ w.extractLsb' 0 8 else w.extractLsb' 8 8 ++ v

/-- R33 `RB[k]`, under the byte-register map `p`. -/
def State.byteRegAt (s : State) (p : ByteRegMap) (k : Reg) : Byte :=
  half (s.reg (byteLoc p k).1) (byteLoc p k).2

/-- R34 `RB[k] <- v`, under the byte-register map `p`. -/
def State.setByteRegAt (s : State) (p : ByteRegMap) (k : Reg) (v : Byte) : State :=
  s.setReg (byteLoc p k).1 (putHalf (s.reg (byteLoc p k).1) (byteLoc p k).2 v)

/-- R33, R137: a byte-register field of an instruction goes through `BYTE_REG_MAP`. -/
def State.byteReg (s : State) (k : Reg) : Byte := s.byteRegAt s.cfg.byteRegMap k

/-- R34, R137 `RB[k] <- v`. -/
def State.setByteReg (s : State) (k : Reg) (v : Byte) : State := s.setByteRegAt s.cfg.byteRegMap k v

/-- R35 `RR[n]`. -/
def State.longReg (s : State) (n : Reg) : Long := s.reg n ++ s.reg (n + 1)

/-- R35 `RR[n] <- v`. -/
def State.setLongReg (s : State) (n : Reg) (v : Long) : State :=
  (s.setReg n (v.extractLsb' 16 16)).setReg (n + 1) (v.extractLsb' 0 16)

/-- R36 `RQ[n]`. -/
def State.quadReg (s : State) (n : Reg) : Quad := s.longReg n ++ s.longReg (n + 2)

/-- R36 `RQ[n] <- v`. -/
def State.setQuadReg (s : State) (n : Reg) (v : Quad) : State :=
  (s.setLongReg n (v.extractLsb' 32 32)).setLongReg (n + 2) (v.extractLsb' 0 32)

/-! ### FCW and modes -/

/-- R47 `segmented_mode()`. -/
def State.segmented (s : State) : Bool :=
  match s.cfg.variant with
  | .z8001 => fcwSeg s.fcw
  | .z8002 => false

/-- R48: system mode. -/
def State.system (s : State) : Bool := fcwSystem s.fcw

/-- The flags of an update written to FCW. -/
def State.setFlags (s : State) (u : FlagUpdate) : State := { s with fcw := u.apply s.fcw }

/-- R57 `swap_stacks()`: the register-file stack pointer and the NSP shadow change places. -/
def State.swapStacks (s : State) : State :=
  let t := { s.setReg 15 s.nspOff with nspOff := s.reg 15 }
  let both := match s.cfg.variant with
    | .z8001 => true
    | .z8002 => s.cfg.z8002SwapR14
  if both then { t.setReg 14 s.nspSeg with nspSeg := s.reg 14 } else t

/-- R56 `change_fcw(v)`: a whole-FCW write, masked (R46), which exchanges the stacks when S_N changes. -/
def State.changeFcw (s : State) (v : Word) : State :=
  let new := v &&& fcwMask s.cfg.variant
  let t := if fcwSystem new = s.system then s else s.swapStacks
  { t with fcw := new }

/-! ### Program counter and operand fetch -/

/-- R39, R40: an address as `pc` can hold it: bit 0 clear, and no segment on the Z8002. -/
def pcValue (v : Variant) (t : Addr) : Addr :=
  match v with
  | .z8001 => wordAlign t
  | .z8002 => 0#7 ++ (wordAlign t).extractLsb' 0 16

/-- R40 `pc <- t`. -/
def State.setPc (s : State) (t : Addr) : State := { s with pc := pcValue s.cfg.variant t }

/-- R131 `Fetch()`: the word at `pc` goes into the next operand slot, and `pc` moves past it. -/
def State.fetch (s : State) : State :=
  { s.touchWord .program s.pc with
    op := s.op.setIfInBounds s.opValid (s.readWord .program s.pc)
    opValid := s.opValid + 1
    pc := s.addrAdd s.pc 2 }

/-- `k` operand fetches. -/
def State.fetchExt : State → Nat → State
  | s, 0 => s
  | s, k + 1 => State.fetchExt s.fetch k

/-! ### Effective addresses -/

/-- R138, R145 `EA_IR(n)`: the address in the pointer register `n` (a pair in segmented mode). It is also the address of
the top of a stack whose pointer is `n` (R228 `sp_loc`) and R400 `ptr(n)`. -/
def State.pointer (s : State) (n : Reg) : Addr :=
  if s.segmented then segAddr (s.reg n) (s.reg (n + 1)) else s.nonsegAddr (s.reg n)

/-- R228 `sp_off(n)`, R400 `off(n)`: the register that holds the offset of the pointer `n`. -/
def State.offsetReg (s : State) (n : Reg) : Reg := if s.segmented then n + 1 else n

/-- R228, R400 `step(n, k)`: the offset of the pointer `n` moves by `k`; its segment never changes. -/
def State.stepPointer (s : State) (n : Reg) (k : Word) : State :=
  s.setReg (s.offsetReg n) (s.reg (s.offsetReg n) + k)

/-! ### Stack (R228, R370) -/

/-- R228 `SPREG`: the implicit stack pointer. -/
def State.spReg (s : State) : Reg := if s.segmented then 14 else 15

/-- R228 `push(p, 2, v)`. -/
def State.pushWord (s : State) (p : Reg) (v : Word) : State :=
  let t := s.stepPointer p (-2)
  t.writeWord .stack (t.pointer p) v

/-- R228 `push(p, 4, v)`. -/
def State.pushLong (s : State) (p : Reg) (v : Long) : State :=
  let t := s.stepPointer p (-4)
  t.writeLong .stack (t.pointer p) v

/-- R228 `pop(p, 2)`: the value. -/
def State.topWord (s : State) (p : Reg) : Word := s.readWord .stack (s.pointer p)

/-- R228 `pop(p, 4)`: the value. -/
def State.topLong (s : State) (p : Reg) : Long := s.readLong .stack (s.pointer p)

/-- R228 `pop(p, 2)`: the state after it. -/
def State.dropWord (s : State) (p : Reg) : State := (s.touchWord .stack (s.pointer p)).stepPointer p 2

/-- R228 `pop(p, 4)`: the state after it. -/
def State.dropLong (s : State) (p : Reg) : State := (s.touchLong .stack (s.pointer p)).stepPointer p 4

/-- R370 `push_pc(a)`. -/
def State.pushPc (s : State) (a : Addr) : State :=
  if s.segmented then s.pushLong s.spReg (segWord a ++ offset a) else s.pushWord s.spReg (offset a)

/-- R370 `pop_pc()`: the address popped, and the state after the pop. -/
def State.popPc (s : State) : Addr × State :=
  if s.segmented then
    let v := s.topLong s.spReg
    (segAddr (v.extractLsb' 16 16) (v.extractLsb' 0 16), s.dropLong s.spReg)
  else (s.nonsegAddr (s.topWord s.spReg), s.dropWord s.spReg)

/-! ### I/O bus (R92, R100, R440) -/

/-- R100 `IoRead(port, 1, mode)`: the value. -/
def State.ioByte (s : State) (port : Word) (mode : IoMode) : Byte := Config.ioReadByte s.ioLog port mode

/-- R100 `IoRead(port, 2, mode)`: the value. -/
def State.ioWord (s : State) (port : Word) (mode : IoMode) : Word := Config.ioReadWord s.ioLog port mode

/-- The access that a transaction on the I/O bus is, and its port. -/
def ioAccess : IoEvent → Access × Word
  | .readByte port mode _ => (.input mode, port)
  | .readWord port mode _ => (.input mode, port)
  | .writeByte port _ mode => (.output mode, port)
  | .writeWord port _ mode => (.output mode, port)

/-- A transaction on the I/O bus, seen by the host; the bus adaptor may request SEGTRAP during it (R608). -/
def State.ioEvent (s : State) (e : IoEvent) : State :=
  { s.access (ioAccess e).1 [(ioAccess e).2.toNat] with ioLog := e :: s.ioLog }

/-! ### Free values (R15) -/

/-- The free values of the instruction that draws now. -/
def State.draw (s : State) : Draw := drawOf (Config.draw s.draws)

/-- The next instruction that draws takes others. -/
def State.drawn (s : State) : State := { s with draws := s.draws + 1 }

/-! ### Requests, exception entry and return -/

/-- R600: the causes, in falling priority. -/
inductive Cause where
  | reset
  | epu
  | trap
  | syscall
  | segtrap
  | nmi
  | nvi
  | vi
  deriving DecidableEq, Repr

/-- R15 `raise TRAP`, `raise EPU`, `raise SYSCALL`; and R605, R608, R700 for the host's. NVI and VI are not latched. -/
def Requests.raise (q : Requests) : Cause → Requests
  | .reset => { q with reset := true }
  | .epu => { q with epu := true }
  | .trap => { q with trap := true }
  | .syscall => { q with syscall := true }
  | .segtrap => { q with segtrap := true }
  | .nmi => { q with nmi := true }
  | .nvi => q
  | .vi => q

/-- R624: the latched bit of a cause cleared; servicing a level changes nothing (R606). -/
def Requests.clear (q : Requests) : Cause → Requests
  | .reset => { q with reset := false }
  | .epu => { q with epu := false }
  | .trap => { q with trap := false }
  | .syscall => { q with syscall := false }
  | .segtrap => { q with segtrap := false }
  | .nmi => { q with nmi := false }
  | .nvi => q
  | .vi => q

/-- No request is latched. -/
def noRequests : Requests := ⟨false, false, false, false, false, false⟩

/-- A request latched (R15). -/
def State.raise (s : State) (c : Cause) : State := { s with irqReq := s.irqReq.raise c }

/-- R620 `pending()`: a cause is pending if its bit is latched, or its line is asserted and enabled (R606). -/
def State.isPending (s : State) : Cause → Bool
  | .reset => s.irqReq.reset
  | .epu => s.irqReq.epu
  | .trap => s.irqReq.trap
  | .syscall => s.irqReq.syscall
  | .segtrap => s.irqReq.segtrap
  | .nmi => s.irqReq.nmi
  | .nvi => s.nviLine && fcwNvie s.fcw
  | .vi => s.viLine && fcwVie s.fcw

/-- R600: every cause, in falling priority. -/
def causes : List Cause := [.reset, .epu, .trap, .syscall, .segtrap, .nmi, .nvi, .vi]

/-- R620: the pending cause of the highest priority. -/
def State.topCause (s : State) : Option Cause := causes.find? s.isPending

/-- R612: the place of a cause's entry in the program status area. RESET has none (R613). -/
def Cause.slot : Cause → Nat
  | .reset => 0
  | .epu => 1
  | .trap => 2
  | .syscall => 3
  | .segtrap => 4
  | .nmi => 5
  | .nvi => 6
  | .vi => 7

/-- R611: the number of the vectored interrupt. -/
def State.vector (s : State) : Nat := (lowByte s.irqVec).toNat

/-- R612: the offset of a cause's FCW in the program status area. -/
def State.psaFcwOffset (s : State) (c : Cause) : Word :=
  match s.cfg.variant with
  | .z8001 => BitVec.ofNat 16 (8 * c.slot + 2)
  | .z8002 => BitVec.ofNat 16 (4 * c.slot)

/-- R612: the offset of a cause's PC in the program status area; VI has a PC for each vector. -/
def State.psaPcOffset (s : State) (c : Cause) : Word :=
  let v := if c = .vi then s.vector else 0
  match s.cfg.variant with
  | .z8001 => BitVec.ofNat 16 (8 * c.slot + 4 + 4 * v)
  | .z8002 => BitVec.ofNat 16 (4 * c.slot + 2 + 2 * v)

/-- R52 `psap_base`. -/
def State.psapBase (s : State) : Addr :=
  match s.cfg.variant with
  | .z8001 => segAddr s.psapSeg s.psapOff
  | .z8002 => 0#7 ++ s.psapOff

/-- R613: a word of the program status area. -/
def State.psaWord (s : State) (o : Word) : Word := s.readWord .program (s.addrAdd s.psapBase o)

/-- R613 `vector(cause)`: the FCW of the entry. -/
def State.vectorFcw (s : State) (c : Cause) : Word := s.psaWord (s.psaFcwOffset c)

/-- R613 `vector(cause)`: the PC of the entry. -/
def State.vectorPc (s : State) (c : Cause) : Addr :=
  match s.cfg.variant with
  | .z8001 => segAddr (s.psaWord (s.psaPcOffset c)) (s.psaWord (s.psaPcOffset c + 2))
  | .z8002 => 0#7 ++ s.psaWord (s.psaPcOffset c)

/-- R613: a word of the program status area is read. -/
def State.touchPsa (s : State) (o : Word) : State := s.touchWord .program (s.addrAdd s.psapBase o)

/-- R613 `vector(cause)`: the accesses. -/
def State.touchVector (s : State) (c : Cause) : State :=
  let t := (s.touchPsa (s.psaFcwOffset c)).touchPsa (s.psaPcOffset c)
  match s.cfg.variant with
  | .z8001 => t.touchPsa (s.psaPcOffset c + 2)
  | .z8002 => t

/-- R600, R624 `tag(c)`: the opcode word for the internal causes, the host's vector word for the external ones. -/
def State.tag (s : State) : Cause → Word
  | .epu | .trap | .syscall => s.op[0]
  | .reset | .segtrap | .nmi | .nvi | .vi => s.irqVec

/-- R624: the FCW in force while the frame is pushed: system mode, and segmented mode on the Z8001. -/
def entryFcw (v : Variant) (old : Word) : Word :=
  match v with
  | .z8001 => old ||| 0xC000
  | .z8002 => old ||| 0x4000

/-- R624 `enter(c)`: taking an exception. The frame (PC, old FCW, tag) goes on the system stack; FCW and PC come from
the cause's entry in the program status area; the latched bit and `halt` (R626) are cleared last, so that a SEGTRAP
which the bus adaptor requests during the entry of SEGTRAP itself is dropped with it. -/
def State.enter (s : State) (c : Cause) : State :=
  let s1 := s.changeFcw (entryFcw s.cfg.variant s.fcw)
  let s2 := s1.pushPc s.pc
  let s3 := s2.pushWord s2.spReg s.fcw
  let s4 := s3.pushWord s3.spReg (s.tag c)
  let s5 := ((s4.touchVector c).changeFcw (s4.vectorFcw c)).setPc (s4.vectorPc c)
  { s5 with irqReq := s5.irqReq.clear c, halt := false }

/-- R702 `reset_service()`: FCW and PC come from the reset vector (R704), nothing is pushed, no stacks are exchanged.
Every latched request is dropped first. -/
def State.resetService (s : State) : State :=
  let u := (({ s with irqReq := noRequests } : State).touchWord .program 2).touchWord .program 4
  let u := match s.cfg.variant with
    | .z8001 => u.touchWord .program 6
    | .z8002 => u
  let f := s.readWord .program 2 &&& fcwMask s.cfg.variant
  let t := match s.cfg.variant with
    | .z8001 => segAddr (s.readWord .program 4) (s.readWord .program 6)
    | .z8002 => 0#7 ++ s.readWord .program 4
  { u.setPc t with fcw := f, halt := false }

/-- R720 `CYCLES_SERVICE(c)`; 0 for RESET. -/
def serviceCost (p : Params) : Cause → Nat
  | .reset => 0
  | .epu => p.serviceCycles.epu
  | .trap => p.serviceCycles.trap
  | .syscall => p.serviceCycles.syscall
  | .segtrap => p.serviceCycles.segtrap
  | .nmi => p.serviceCycles.nmi
  | .nvi => p.serviceCycles.nvi
  | .vi => p.serviceCycles.vi

/-- R710, R720: `k` cycles charged. -/
def State.charge (s : State) (k : Nat) : State :=
  { s with icount := s.icount - k, totalCycles := s.totalCycles + k }

/-- R620 `service()`: at most one cause, the pending one of the highest priority. -/
def State.service (s : State) : State :=
  match s.topCause with
  | none => s
  | some .reset => s.resetService.charge (serviceCost s.cfg .reset)
  | some c => (s.enter c).charge (serviceCost s.cfg c)

/-- R514 IRET: the return from an exception. Tag, FCW and PC are popped from the stack of the mode in force; the PC is 4
bytes on the Z8001 in either mode. -/
def State.returnFromException (s : State) : State :=
  let p := s.spReg
  let s1 := s.dropWord p
  let f := s1.topWord p
  let s2 := s1.dropWord p
  match s.cfg.variant with
  | .z8001 =>
    let v := s2.topLong p
    ((s2.dropLong p).changeFcw f).setPc (segAddr (v.extractLsb' 16 16) (v.extractLsb' 0 16))
  | .z8002 =>
    let t := s2.topWord p
    ((s2.dropWord p).changeFcw f).setPc (0#7 ++ t)

end Sys2Proof.Machine
end

