-- ==== Sys2Proof/Machine/Operands.lean ====
section
/-!
DEFINITION. The operand forms (30_encoding.md rules R137 to R153, 40_data_movement.md rule R200): effective addresses,
the value and the place of an operand in each mode and width; and the three ways an instruction's meaning is put
together (`need`, `priv`, `finish`) with the shapes that families of instructions share.
-/

namespace Sys2Proof.Machine

open Sys2Proof

/-- What a step answers. -/
abbrev Out := Host.Outcome State Fault Refusal

/-! ### Widths -/

/-- How operands of one width are read and written: in registers (R137) and in memory through the data role (R151). A
read of memory is a value, `load`, and an access, `touch`, during which the bus adaptor may request SEGTRAP (R608). -/
structure Width (n : Nat) where
  getReg : State → Reg → BitVec n
  setReg : State → Reg → BitVec n → State
  load   : State → Addr → BitVec n
  touch  : State → Addr → State
  store  : State → Addr → BitVec n → State

/-- Byte operands. -/
def byteW : Width 8 :=
  ⟨State.byteReg, State.setByteReg, State.readByte .data, State.touchByte .data, State.writeByte .data⟩

/-- Word operands. -/
def wordW : Width 16 :=
  ⟨State.reg, State.setReg, State.readWord .data, State.touchWord .data, State.writeWord .data⟩

/-- Long operands. -/
def longW : Width 32 :=
  ⟨State.longReg, State.setLongReg, State.readLong .data, State.touchLong .data, State.writeLong .data⟩

end Sys2Proof.Machine

namespace Sys2Proof

open Sys2Proof.Machine

/-! ### Effective addresses -/

/-- R143, R146 `EA_DA()`: the address an address operand names. -/
def AddrOp.ea (s : State) : AddrOp → Addr
  | .nonseg off => s.nonsegAddr off
  | .short seg off => seg ++ (0#8 ++ off)
  | .long seg off => seg ++ off

/-- R145 to R147: the effective address of a memory operand. -/
def MemOp.ea (s : State) : MemOp → Addr
  | .ir n => s.pointer n
  | .da ad => ad.ea s
  | .x n ad => s.addrAdd (ad.ea s) (s.reg n)

/-- R149, R150: the effective address of a memory operand of the LD family. -/
def LdMem.ea (s : State) : LdMem → Addr
  | .mem m => m.ea s
  | .ba n disp => s.addrAdd (s.pointer n) disp
  | .bx n x => s.addrAdd (s.pointer n) (s.reg x)

end Sys2Proof

namespace Sys2Proof.Machine

/-- R148 `EA_RA()`: relative to the address of the next instruction, which `pc` holds once the words are fetched. -/
def State.relative (s : State) (disp : Word) : Addr := s.addrAdd s.pc disp

/-! ### Places and values -/

/-- Where an operand is: in a register, or in memory at an effective address computed once (R151). -/
inductive Place where
  | reg (n : Reg)
  | addr (a : Addr)
  deriving DecidableEq, Repr

/-- The value at a place. -/
def Place.get {n : Nat} (w : Width n) (s : State) : Place → BitVec n
  | .reg r => w.getReg s r
  | .addr a => w.load s a

/-- The access that reading a place is; none for a register. -/
def Place.touch {n : Nat} (w : Width n) (s : State) : Place → State
  | .reg _ => s
  | .addr a => w.touch s a

/-- A value written to a place. -/
def Place.put {n : Nat} (w : Width n) (s : State) (v : BitVec n) : Place → State
  | .reg r => w.setReg s r v
  | .addr a => w.store s a v

end Sys2Proof.Machine

namespace Sys2Proof

open Sys2Proof.Machine

/-- The place of a register or memory operand. -/
def RegMem.place (s : State) : RegMem → Place
  | .reg r => .reg r
  | .mem m => .addr (m.ea s)

/-- R200 `src_N`: the value of a source. -/
def Source.value {n : Nat} (w : Width n) (s : State) : Source (BitVec n) → BitVec n
  | .reg r => w.getReg s r
  | .imm v => v
  | .mem m => w.load s (m.ea s)

/-- The access that reading a source is. -/
def Source.touch {n : Nat} (w : Width n) (s : State) : Source (BitVec n) → State
  | .reg _ => s
  | .imm _ => s
  | .mem m => w.touch s (m.ea s)

/-- R153: the port number of a port operand. -/
def PortOp.port (s : State) : PortOp → Word
  | .ir n => s.reg n
  | .da port => port

end Sys2Proof

namespace Sys2Proof.Machine

/-! ### How a meaning is put together -/

/-- R137: the fault of a register field that names no pair or quad, raised before any access. -/
def need (ok : Bool) (f : Fault) (o : Out) : Out := if ok then o else .fault f

/-- R530 `priv()`: in normal mode the instruction raises TRAP and has no other effect (log 16). -/
def priv (s : State) (o : Out) : Out := if s.system then o else .next (s.raise .trap)

/-- R152: the extension words are fetched, then the effect `f` takes place. -/
def finish (s : State) (words : Nat) (f : State → State) : Out := .next (f (s.fetchExt words))

/-! ### Shapes -/

/-- `R[d] <- MemRead(data, a)`. -/
def loadFrom {n : Nat} (w : Width n) (d : Reg) (a : Addr) (s : State) : State :=
  w.setReg (w.touch s a) d (w.load s a)

/-- `R[d] <- op(R[d], src)` with flags. -/
def binary {n : Nat} (w : Width n) (d : Reg) (src : Source (BitVec n))
    (op : BitVec n → BitVec n → BitVec n × FlagUpdate) (s : State) : State :=
  let r := op (w.getReg s d) (src.value w s)
  (w.setReg (src.touch w s) d r.1).setFlags r.2

/-- The flags of `op(R[d], src)`; nothing is stored. -/
def compareWith {n : Nat} (w : Width n) (d : Reg) (src : Source (BitVec n))
    (op : BitVec n → BitVec n → FlagUpdate) (s : State) : State :=
  (src.touch w s).setFlags (op (w.getReg s d) (src.value w s))

/-- `dst <- op(dst)` with flags: a read-modify-write at one place (R151). -/
def modify {n : Nat} (w : Width n) (dst : RegMem) (op : BitVec n → BitVec n × FlagUpdate) (s : State) : State :=
  let p := dst.place s
  let r := op (p.get w s)
  (p.put w (p.touch w s) r.1).setFlags r.2

/-- The flags of `op(dst)`; a memory operand is only read. -/
def inspect {n : Nat} (w : Width n) (dst : RegMem) (op : BitVec n → FlagUpdate) (s : State) : State :=
  ((dst.place s).touch w s).setFlags (op ((dst.place s).get w s))

/-- `R[d] <- op(R[d])` with flags. -/
def modifyReg {n : Nat} (w : Width n) (d : Reg) (op : BitVec n → BitVec n × FlagUpdate) (s : State) : State :=
  let r := op (w.getReg s d)
  (w.setReg s d r.1).setFlags r.2

/-- `R[d] <- op(R[d])` with flags, where `op` may use the free values of this instruction. -/
def modifyRegDraw {n : Nat} (w : Width n) (d : Reg) (op : Draw → BitVec n → BitVec n × FlagUpdate)
    (s : State) : State :=
  (modifyReg w d (op s.draw) s).drawn

end Sys2Proof.Machine
end

