-- ==== Sys2Proof/Machine/Arith.lean ====
section
/-!
DEFINITION. The meanings of the arithmetic instructions (41_arithmetic.md).
-/

namespace Sys2Proof.Machine

open Sys2Proof

/-! ### Shared -/

/-- A word or long addition (R251, R253, R254). -/
def addOp {n : Nat} (ci : Bool) (a b : BitVec n) : BitVec n × FlagUpdate := ((addC a b ci).r, (addC a b ci).flags)

/-- A byte addition: it also writes H, and clears DA (R252, R255). -/
def addOpB (ci : Bool) (a b : Byte) : Byte × FlagUpdate := ((addC a b ci).r, (addC a b ci).byteFlags false)

/-- A word or long subtraction (R256, R258, R259). -/
def subOp {n : Nat} (ci : Bool) (a b : BitVec n) : BitVec n × FlagUpdate := ((subC a b ci).r, (subC a b ci).flags)

/-- A byte subtraction: it also writes H, and sets DA (R257, R260). -/
def subOpB (ci : Bool) (a b : Byte) : Byte × FlagUpdate := ((subC a b ci).r, (subC a b ci).byteFlags true)

/-- The flags of a comparison (R261 to R265): C, Z, S and PV in every width. -/
def compareOp {n : Nat} (a b : BitVec n) : FlagUpdate := (subC a b false).flags

/-- R268, R269: an increment by the field's value plus 1. -/
def incOp {n : Nat} (k : BitVec 4) (x : BitVec n) : BitVec n × FlagUpdate :=
  let t := addC x (BitVec.ofNat n (k.toNat + 1)) false
  (t.r, t.countFlags)

/-- R270, R271: a decrement by the field's value plus 1. -/
def decOp {n : Nat} (k : BitVec 4) (x : BitVec n) : BitVec n × FlagUpdate :=
  let t := subC x (BitVec.ofNat n (k.toNat + 1)) false
  (t.r, t.countFlags)

/-- R283: a bad division raises TRAP when `DIV_ZERO_TRAPS` is true, after its own effect. -/
def State.divisionTrap (s : State) (bad : Bool) : State := if bad && s.cfg.divZeroTraps then s.raise .trap else s

/-! ### Addition -/

/-- R251. -/
def execAdd (d : Reg) (src : Source Word) (st : State) : Out :=
  need (src.pairs st.segmented) .oddPair <| finish st (src.extWords 1) (binary wordW d src (addOp false))

/-- R252. -/
def execAddb (d : Reg) (src : Source Byte) (st : State) : Out :=
  need (src.pairs st.segmented) .oddPair <| finish st (src.extWords 1) (binary byteW d src (addOpB false))

/-- R253. -/
def execAddl (d : Reg) (src : Source Long) (st : State) : Out :=
  need (src.pairsL st.segmented && evenReg d) .oddPair <| finish st (src.extWords 2) (binary longW d src (addOp false))

/-- R254. -/
def execAdc (d s : Reg) (st : State) : Out := finish st 0 (binary wordW d (.reg s) (addOp (flagC st.fcw)))

/-- R255. -/
def execAdcb (d s : Reg) (st : State) : Out := finish st 0 (binary byteW d (.reg s) (addOpB (flagC st.fcw)))

/-! ### Subtraction -/

/-- R256. -/
def execSub (d : Reg) (src : Source Word) (st : State) : Out :=
  need (src.pairs st.segmented) .oddPair <| finish st (src.extWords 1) (binary wordW d src (subOp false))

/-- R257. -/
def execSubb (d : Reg) (src : Source Byte) (st : State) : Out :=
  need (src.pairs st.segmented) .oddPair <| finish st (src.extWords 1) (binary byteW d src (subOpB false))

/-- R258. -/
def execSubl (d : Reg) (src : Source Long) (st : State) : Out :=
  need (src.pairsL st.segmented && evenReg d) .oddPair <| finish st (src.extWords 2) (binary longW d src (subOp false))

/-- R259. -/
def execSbc (d s : Reg) (st : State) : Out := finish st 0 (binary wordW d (.reg s) (subOp (flagC st.fcw)))

/-- R260. -/
def execSbcb (d s : Reg) (st : State) : Out := finish st 0 (binary byteW d (.reg s) (subOpB (flagC st.fcw)))

/-! ### Comparison -/

/-- R261. -/
def execCp (d : Reg) (src : Source Word) (st : State) : Out :=
  need (src.pairs st.segmented) .oddPair <| finish st (src.extWords 1) (compareWith wordW d src compareOp)

/-- R262. -/
def execCpImm (dst : MemOp) (imm : Word) (st : State) : Out :=
  need (dst.pairs st.segmented) .oddPair <|
    finish st (dst.extWords + 1) (inspect wordW (.mem dst) (compareOp · imm))

/-- R263. -/
def execCpb (d : Reg) (src : Source Byte) (st : State) : Out :=
  need (src.pairs st.segmented) .oddPair <| finish st (src.extWords 1) (compareWith byteW d src compareOp)

/-- R264. -/
def execCpbImm (dst : MemOp) (imm : Byte) (st : State) : Out :=
  need (dst.pairs st.segmented) .oddPair <|
    finish st (dst.extWords + 1) (inspect byteW (.mem dst) (compareOp · imm))

/-- R265. -/
def execCpl (d : Reg) (src : Source Long) (st : State) : Out :=
  need (src.pairsL st.segmented && evenReg d) .oddPair <| finish st (src.extWords 2) (compareWith longW d src compareOp)

/-! ### Negation, increment, decrement -/

/-- R266. -/
def execNeg (dst : RegMem) (st : State) : Out :=
  need (dst.pairs st.segmented) .oddPair <| finish st dst.extWords (modify wordW dst negate)

/-- R267. -/
def execNegb (dst : RegMem) (st : State) : Out :=
  need (dst.pairs st.segmented) .oddPair <| finish st dst.extWords (modify byteW dst negate)

/-- R268. -/
def execInc (dst : RegMem) (n : BitVec 4) (st : State) : Out :=
  need (dst.pairs st.segmented) .oddPair <| finish st dst.extWords (modify wordW dst (incOp n))

/-- R269. -/
def execIncb (dst : RegMem) (n : BitVec 4) (st : State) : Out :=
  need (dst.pairs st.segmented) .oddPair <| finish st dst.extWords (modify byteW dst (incOp n))

/-- R270. -/
def execDec (dst : RegMem) (n : BitVec 4) (st : State) : Out :=
  need (dst.pairs st.segmented) .oddPair <| finish st dst.extWords (modify wordW dst (decOp n))

/-- R271. -/
def execDecb (dst : RegMem) (n : BitVec 4) (st : State) : Out :=
  need (dst.pairs st.segmented) .oddPair <| finish st dst.extWords (modify byteW dst (decOp n))

/-! ### Multiplication and division -/

/-- R272: the multiplicand is the low word of the destination pair. -/
def execMult (d : Reg) (src : Source Word) (st : State) : Out :=
  need (src.pairs st.segmented && evenReg d) .oddPair <| finish st (src.extWords 1) fun t =>
    let p := multiply 32 (t.reg (d + 1)) (src.value wordW t)
    ((src.touch wordW t).setLongReg d p.1).setFlags p.2

/-- R273: the multiplicand is the low long of the destination quad. -/
def execMultl (d : Reg) (src : Source Long) (st : State) : Out :=
  need (quadReg d) .badQuad <| need (src.pairsL st.segmented) .oddPair <| finish st (src.extWords 2) fun t =>
    let p := multiply 64 (t.longReg (d + 2)) (src.value longW t)
    ((src.touch longW t).setQuadReg d p.1).setFlags p.2

/-- R280: remainder in the high half of the destination, quotient in the low half. -/
def execDiv (d : Reg) (src : Source Word) (st : State) : Out :=
  need (src.pairs st.segmented && evenReg d) .oddPair <| finish st (src.extWords 1) fun t =>
    let q := division (t.longReg d) (src.value wordW t) t.draw
    (((src.touch wordW t).setLongReg d (q.rem ++ q.quot)).setFlags q.flags).drawn.divisionTrap q.bad

/-- R281. -/
def execDivl (d : Reg) (src : Source Long) (st : State) : Out :=
  need (quadReg d) .badQuad <| need (src.pairsL st.segmented) .oddPair <| finish st (src.extWords 2) fun t =>
    let q := division (t.quadReg d) (src.value longW t) t.draw
    (((src.touch longW t).setQuadReg d (q.rem ++ q.quot)).setFlags q.flags).drawn.divisionTrap q.bad

/-! ### Sign extension -/

/-- R285: the low byte of the word register, whatever `BYTE_REG_MAP` is. -/
def execExtsb (d : Reg) (st : State) : Out := finish st 0 fun t => t.setReg d (signExt (lowByte (t.reg d)))

/-- R286. -/
def execExts (d : Reg) (st : State) : Out :=
  need (evenReg d) .oddPair <| finish st 0 fun t => t.setReg d (if (t.reg (d + 1)).msb then 0xFFFF else 0)

/-- R287. -/
def execExtsl (d : Reg) (st : State) : Out :=
  need (quadReg d) .badQuad <| finish st 0 fun t =>
    t.setLongReg d (if (t.longReg (d + 2)).msb then 0xFFFFFFFF else 0)

/-! ### Decimal adjust -/

/-- R290: C, Z and S are written; PV, DA and H are not. -/
def execDab (d : Reg) (st : State) : Out := finish st 0 fun t =>
  let r := dab t.cfg.dabNonBcd (t.byteReg d) (flagC t.fcw) (flagH t.fcw) (flagDA t.fcw)
  (t.setByteReg d r.1).setFlags { c := some r.2, z := some (isZero r.1), s := some r.1.msb }

end Sys2Proof.Machine
end

