-- ==== Sys2Proof/Machine/Block.lean ====
section
/-!
DEFINITION. The meanings of the block transfer, compare and translate instructions (45_block.md). One execution is one
iteration, in the order of events of rule R400.
-/

namespace Sys2Proof.Machine

open Sys2Proof

/-! ### Shared (R400) -/

/-- R400 `count(r)`. -/
def State.countDown (s : State) (r : Reg) : State :=
  (s.setReg r (s.reg r - 1)).setFlags { pv := some (isZero (s.reg r - 1)) }

/-- R400 `again()`, where `b` holds: the same instruction runs next. -/
def State.againIf (s : State) (b : Bool) : State :=
  { s with pc := if b then pcValue s.cfg.variant (s.addrAdd s.pc (-4)) else s.pc }

/-- The repeat forms go again while the counter is not 0. -/
def repeatWhileCount (r : Reg) (s : State) : State := s.againIf (s.reg r != 0)

/-- R411: the repeating compares go again while Z is 0 and the counter is not 0. -/
def repeatUntilMatch (r : Reg) (s : State) : State := s.againIf (!flagZ s.fcw && s.reg r != 0)

/-- R430: the repeating translate-and-tests go again while Z is 1 and the counter is not 0. -/
def repeatUntilNonzero (r : Reg) (s : State) : State := s.againIf (flagZ s.fcw && s.reg r != 0)

/-- R433 `blkcmp`: Z is the condition on the flags of `a - b`; C and S are free. -/
def blockCompare {n : Nat} (a b : BitVec n) (c : CondCode) (fcw : Word) (d : Draw) : FlagUpdate where
  c := some d.c
  z := some (cc c ((subC a b false).flags.apply fcw))
  s := some d.s

/-- R401 to R408: one element moved from the source to the destination pointer, both stepped by `k`. -/
def moveBlock {n : Nat} (w : Width n) (k : Word) (d s r : Reg) (t : State) : State :=
  let t1 := w.store (w.touch t (t.pointer s)) (t.pointer d) (w.load t (t.pointer s))
  ((t1.stepPointer d k).stepPointer s k).countDown r

/-- R409 to R416: a register compared with the element at the source pointer (log 18). -/
def compareBlock {n : Nat} (w : Width n) (k : Word) (d s r : Reg) (c : CondCode) (t : State) : State :=
  let u := blockCompare (w.getReg t d) (w.load t (t.pointer s)) c t.fcw t.draw
  ((((w.touch t (t.pointer s)).stepPointer s k).countDown r).setFlags u).drawn

/-- R417 to R424: the elements at the two pointers compared. -/
def compareStrings {n : Nat} (w : Width n) (k : Word) (d s r : Reg) (c : CondCode) (t : State) : State :=
  let u := blockCompare (w.load t (t.pointer d)) (w.load t (t.pointer s)) c t.fcw t.draw
  let t1 := w.touch (w.touch t (t.pointer d)) (t.pointer s)
  ((((t1.stepPointer d k).stepPointer s k).countDown r).setFlags u).drawn

/-- R434 `tab(p, v)`. -/
def State.tableEntry (s : State) (p : Reg) (v : Byte) : Addr := s.addrAdd (s.pointer p) (v.setWidth 16)

/-- R434: the byte at `a` and its entry in the table at `p` are read. -/
def State.touchEntry (s : State) (a : Addr) (p : Reg) : State :=
  (s.touchByte .data a).touchByte .data (s.tableEntry p (s.readByte .data a))

/-- R425, R427: a byte of the string replaced by its entry in the table at `s`; Z is free. -/
def translate (k : Word) (d s r : Reg) (t : State) : State :=
  let x := t.readByte .data (t.tableEntry s (t.readByte .data (t.pointer d)))
  let t1 := (t.touchEntry (t.pointer d) s).writeByte .data (t.pointer d) x
  (((t1.stepPointer d k).countDown r).setFlags { z := some t.draw.z }).drawn

/-- R429, R431: the table entry of a byte of the string goes to RH1 and is tested. -/
def translateTest (k : Word) (s p r : Reg) (t : State) : State :=
  let x := t.readByte .data (t.tableEntry p (t.readByte .data (t.pointer s)))
  let t1 := ((t.touchEntry (t.pointer s) p).setReg 1 (putHalf (t.reg 1) true x)).setFlags { z := some (isZero x) }
  (t1.stepPointer s k).countDown r

/-! ### Block loads -/

/-- R401. -/
def execLdi (d s r : Reg) (st : State) : Out :=
  need (ptrReg st.segmented d && ptrReg st.segmented s) .oddPair <| finish st 1 fun t => moveBlock wordW 2 d s r t

/-- R402. -/
def execLdib (d s r : Reg) (st : State) : Out :=
  need (ptrReg st.segmented d && ptrReg st.segmented s) .oddPair <| finish st 1 fun t => moveBlock byteW 1 d s r t

/-- R403. -/
def execLdir (d s r : Reg) (st : State) : Out :=
  need (ptrReg st.segmented d && ptrReg st.segmented s) .oddPair <|
    finish st 1 fun t => repeatWhileCount r (moveBlock wordW 2 d s r t)

/-- R404. -/
def execLdirb (d s r : Reg) (st : State) : Out :=
  need (ptrReg st.segmented d && ptrReg st.segmented s) .oddPair <|
    finish st 1 fun t => repeatWhileCount r (moveBlock byteW 1 d s r t)

/-- R405. -/
def execLdd (d s r : Reg) (st : State) : Out :=
  need (ptrReg st.segmented d && ptrReg st.segmented s) .oddPair <| finish st 1 fun t => moveBlock wordW (-2) d s r t

/-- R406. -/
def execLddb (d s r : Reg) (st : State) : Out :=
  need (ptrReg st.segmented d && ptrReg st.segmented s) .oddPair <| finish st 1 fun t => moveBlock byteW (-1) d s r t

/-- R407. -/
def execLddr (d s r : Reg) (st : State) : Out :=
  need (ptrReg st.segmented d && ptrReg st.segmented s) .oddPair <|
    finish st 1 fun t => repeatWhileCount r (moveBlock wordW (-2) d s r t)

/-- R408. -/
def execLddrb (d s r : Reg) (st : State) : Out :=
  need (ptrReg st.segmented d && ptrReg st.segmented s) .oddPair <|
    finish st 1 fun t => repeatWhileCount r (moveBlock byteW (-1) d s r t)

/-! ### Compare register with memory -/

/-- R409. -/
def execCpi (d s r : Reg) (c : CondCode) (st : State) : Out :=
  need (ptrReg st.segmented s) .oddPair <| finish st 1 fun t => compareBlock wordW 2 d s r c t

/-- R410. -/
def execCpib (d s r : Reg) (c : CondCode) (st : State) : Out :=
  need (ptrReg st.segmented s) .oddPair <| finish st 1 fun t => compareBlock byteW 1 d s r c t

/-- R411. -/
def execCpir (d s r : Reg) (c : CondCode) (st : State) : Out :=
  need (ptrReg st.segmented s) .oddPair <| finish st 1 fun t => repeatUntilMatch r (compareBlock wordW 2 d s r c t)

/-- R412. -/
def execCpirb (d s r : Reg) (c : CondCode) (st : State) : Out :=
  need (ptrReg st.segmented s) .oddPair <| finish st 1 fun t => repeatUntilMatch r (compareBlock byteW 1 d s r c t)

/-- R413. -/
def execCpd (d s r : Reg) (c : CondCode) (st : State) : Out :=
  need (ptrReg st.segmented s) .oddPair <| finish st 1 fun t => compareBlock wordW (-2) d s r c t

/-- R414. -/
def execCpdb (d s r : Reg) (c : CondCode) (st : State) : Out :=
  need (ptrReg st.segmented s) .oddPair <| finish st 1 fun t => compareBlock byteW (-1) d s r c t

/-- R415. -/
def execCpdr (d s r : Reg) (c : CondCode) (st : State) : Out :=
  need (ptrReg st.segmented s) .oddPair <| finish st 1 fun t => repeatUntilMatch r (compareBlock wordW (-2) d s r c t)

/-- R416. -/
def execCpdrb (d s r : Reg) (c : CondCode) (st : State) : Out :=
  need (ptrReg st.segmented s) .oddPair <| finish st 1 fun t => repeatUntilMatch r (compareBlock byteW (-1) d s r c t)

/-! ### Compare string with string -/

/-- R417. -/
def execCpsi (d s r : Reg) (c : CondCode) (st : State) : Out :=
  need (ptrReg st.segmented d && ptrReg st.segmented s) .oddPair <|
    finish st 1 fun t => compareStrings wordW 2 d s r c t

/-- R418. -/
def execCpsib (d s r : Reg) (c : CondCode) (st : State) : Out :=
  need (ptrReg st.segmented d && ptrReg st.segmented s) .oddPair <|
    finish st 1 fun t => compareStrings byteW 1 d s r c t

/-- R419. -/
def execCpsir (d s r : Reg) (c : CondCode) (st : State) : Out :=
  need (ptrReg st.segmented d && ptrReg st.segmented s) .oddPair <|
    finish st 1 fun t => repeatUntilMatch r (compareStrings wordW 2 d s r c t)

/-- R420. -/
def execCpsirb (d s r : Reg) (c : CondCode) (st : State) : Out :=
  need (ptrReg st.segmented d && ptrReg st.segmented s) .oddPair <|
    finish st 1 fun t => repeatUntilMatch r (compareStrings byteW 1 d s r c t)

/-- R421. -/
def execCpsd (d s r : Reg) (c : CondCode) (st : State) : Out :=
  need (ptrReg st.segmented d && ptrReg st.segmented s) .oddPair <|
    finish st 1 fun t => compareStrings wordW (-2) d s r c t

/-- R422. -/
def execCpsdb (d s r : Reg) (c : CondCode) (st : State) : Out :=
  need (ptrReg st.segmented d && ptrReg st.segmented s) .oddPair <|
    finish st 1 fun t => compareStrings byteW (-1) d s r c t

/-- R423. -/
def execCpsdr (d s r : Reg) (c : CondCode) (st : State) : Out :=
  need (ptrReg st.segmented d && ptrReg st.segmented s) .oddPair <|
    finish st 1 fun t => repeatUntilMatch r (compareStrings wordW (-2) d s r c t)

/-- R424. -/
def execCpsdrb (d s r : Reg) (c : CondCode) (st : State) : Out :=
  need (ptrReg st.segmented d && ptrReg st.segmented s) .oddPair <|
    finish st 1 fun t => repeatUntilMatch r (compareStrings byteW (-1) d s r c t)

/-! ### Translate -/

/-- R425. -/
def execTrib (d s r : Reg) (st : State) : Out :=
  need (ptrReg st.segmented d && ptrReg st.segmented s) .oddPair <| finish st 1 fun t => translate 1 d s r t

/-- R426. -/
def execTrirb (d s r : Reg) (st : State) : Out :=
  need (ptrReg st.segmented d && ptrReg st.segmented s) .oddPair <|
    finish st 1 fun t => repeatWhileCount r (translate 1 d s r t)

/-- R427. -/
def execTrdb (d s r : Reg) (st : State) : Out :=
  need (ptrReg st.segmented d && ptrReg st.segmented s) .oddPair <| finish st 1 fun t => translate (-1) d s r t

/-- R428. -/
def execTrdrb (d s r : Reg) (st : State) : Out :=
  need (ptrReg st.segmented d && ptrReg st.segmented s) .oddPair <|
    finish st 1 fun t => repeatWhileCount r (translate (-1) d s r t)

/-- R429. -/
def execTrtib (s p r : Reg) (st : State) : Out :=
  need (ptrReg st.segmented s && ptrReg st.segmented p) .oddPair <|
    finish st 1 fun t => translateTest 1 s p r t

/-- R430. -/
def execTrtirb (s p r : Reg) (st : State) : Out :=
  need (ptrReg st.segmented s && ptrReg st.segmented p) .oddPair <|
    finish st 1 fun t => repeatUntilNonzero r (translateTest 1 s p r t)

/-- R431. -/
def execTrtdb (s p r : Reg) (st : State) : Out :=
  need (ptrReg st.segmented s && ptrReg st.segmented p) .oddPair <|
    finish st 1 fun t => translateTest (-1) s p r t

/-- R432. -/
def execTrtdrb (s p r : Reg) (st : State) : Out :=
  need (ptrReg st.segmented s && ptrReg st.segmented p) .oddPair <|
    finish st 1 fun t => repeatUntilNonzero r (translateTest (-1) s p r t)

end Sys2Proof.Machine
end

