-- ==== Sys2Proof/Machine/Control.lean ====
section
/-!
DEFINITION. The meanings of the branch, call and return instructions (44_control.md). `t.pc` is the address of the next
instruction, every word of this one being fetched.
-/

namespace Sys2Proof.Machine

open Sys2Proof

/-- R372, R374: a signed word displacement as a byte displacement. -/
def signedDisp {n : Nat} (p : BitVec n) : Word := signExt p <<< 1

/-- R376, R377: an unsigned word displacement backward, as a byte displacement. -/
def backwardDisp (p : BitVec 7) : Word := -(p.setWidth 16 <<< 1)

/-- R373, R374: the return address is pushed and `pc` set to the target, computed before the push. -/
def State.callTo (s : State) (target : Addr) : State := (s.pushPc s.pc).setPc target

/-- R371. -/
def execJp (c : CondCode) (dst : MemOp) (st : State) : Out :=
  need (dst.pairs st.segmented) .oddPair <|
    finish st dst.extWords fun t => if cc c t.fcw then t.setPc (dst.ea t) else t

/-- R372. -/
def execJr (c : CondCode) (disp : BitVec 8) (st : State) : Out := finish st 0 fun t =>
  if cc c t.fcw then t.setPc (t.addrAdd t.pc (signedDisp disp)) else t

/-- R376. -/
def execDjnz (d : Reg) (disp : BitVec 7) (st : State) : Out := finish st 0 fun t =>
  let v := t.reg d - 1
  let u := t.setReg d v
  if v = 0 then u else u.setPc (u.addrAdd u.pc (backwardDisp disp))

/-- R377. -/
def execDbjnz (d : Reg) (disp : BitVec 7) (st : State) : Out := finish st 0 fun t =>
  let v := t.byteReg d - 1
  let u := t.setByteReg d v
  if v = 0 then u else u.setPc (u.addrAdd u.pc (backwardDisp disp))

/-- R373. -/
def execCall (dst : MemOp) (st : State) : Out :=
  need (dst.pairs st.segmented) .oddPair <| finish st dst.extWords fun t => t.callTo (dst.ea t)

/-- R374: the displacement is subtracted. -/
def execCalr (disp : BitVec 12) (st : State) : Out := finish st 0 fun t =>
  t.callTo (t.addrAdd t.pc (-(signedDisp disp)))

/-- R375. -/
def execRet (c : CondCode) (st : State) : Out := finish st 0 fun t =>
  if cc c t.fcw then t.popPc.2.setPc t.popPc.1 else t

/-- R378: SYSCALL is raised and nothing else changes; the entry is taken at the next boundary (R620, R624). -/
def execSc (_imm : BitVec 8) (st : State) : Out := finish st 0 fun t => t.raise .syscall

end Sys2Proof.Machine
end

