-- ==== Sys2Proof/Machine/DataMove.lean ====
section
/-!
DEFINITION. The meanings of the data movement instructions (40_data_movement.md). In each, `st` is the state after the
opcode fetch and `t` the state after the extension words are fetched (R152).
-/

namespace Sys2Proof.Machine

open Sys2Proof

/-! ### Shared -/

/-- R229: a byte put into a byte register, with the flags of `BYTE_LOAD_FLAGS`. -/
def State.loadByteReg (s : State) (d : Reg) (b : Byte) : State :=
  (s.setByteReg d b).setFlags (byteLoadFlags s.cfg.byteLoadFlags b)

/-- R229: the same with a byte of memory. -/
def State.loadByte (s : State) (d : Reg) (a : Addr) : State :=
  (s.touchByte .data a).loadByteReg d (s.readByte .data a)

/-- R215: an address put into a register, or with its segment word into a pair in segmented mode. -/
def State.loadAddress (s : State) (d : Reg) (a : Addr) : State :=
  if s.segmented then s.setLongReg d (segWord a ++ offset a) else s.setReg d (offset a)

/-- R218: `k` words from rising addresses into rising registers, which wrap from R15 to R0. -/
def State.loadMultiple : State → Addr → Reg → Nat → State
  | s, _, _, 0 => s
  | s, a, d, k + 1 => State.loadMultiple (loadFrom wordW d a s) (s.addrAdd a 2) (d + 1) k

/-- R219: `k` rising registers to words at rising addresses. -/
def State.storeMultiple : State → Addr → Reg → Nat → State
  | s, _, _, 0 => s
  | s, a, r, k + 1 => State.storeMultiple (s.writeWord .data a (s.reg r)) (s.addrAdd a 2) (r + 1) k

/-- R220, R221: a register and an operand change places. -/
def exchange {n : Nat} (w : Width n) (d : Reg) (src : RegMem) (s : State) : State :=
  let p := src.place s
  w.setReg (p.put w (p.touch w s) (w.getReg s d)) d (p.get w s)

/-! ### LD -/

/-- R201 mode R. -/
def execLdR (d s : Reg) (st : State) : Out := finish st 0 fun t => t.setReg d (t.reg s)

/-- R201 mode IM. -/
def execLdIM (d : Reg) (imm : Word) (st : State) : Out := finish st 1 fun t => t.setReg d imm

/-- R201 modes IR, DA, X, BA, BX. -/
def execLdMem (d : Reg) (src : LdMem) (st : State) : Out :=
  need (src.pairs st.segmented) .oddPair <| finish st src.extWords fun t => loadFrom wordW d (src.ea t) t

/-- R202. -/
def execLdTo (dst : LdMem) (s : Reg) (st : State) : Out :=
  need (dst.pairs st.segmented) .oddPair <| finish st dst.extWords fun t => t.writeWord .data (dst.ea t) (t.reg s)

/-- R203. -/
def execLdImm (dst : MemOp) (imm : Word) (st : State) : Out :=
  need (dst.pairs st.segmented) .oddPair <| finish st (dst.extWords + 1) fun t => t.writeWord .data (dst.ea t) imm

/-! ### LDB -/

/-- R204 mode R. -/
def execLdbR (d s : Reg) (st : State) : Out := finish st 0 fun t => t.loadByteReg d (t.byteReg s)

/-- R204 mode IM. -/
def execLdbIM (d : Reg) (imm : Byte) (st : State) : Out := finish st 1 fun t => t.loadByteReg d imm

/-- R204, the short immediate form. -/
def execLdbShort (d : Reg) (imm : Byte) (st : State) : Out := finish st 0 fun t => t.loadByteReg d imm

/-- R204 modes IR, DA, X, BA, BX. -/
def execLdbMem (d : Reg) (src : LdMem) (st : State) : Out :=
  need (src.pairs st.segmented) .oddPair <|
    finish st src.extWords fun t => t.loadByte d (src.ea t)

/-- R205. -/
def execLdbTo (dst : LdMem) (s : Reg) (st : State) : Out :=
  need (dst.pairs st.segmented) .oddPair <|
    finish st dst.extWords fun t => t.writeByte .data (dst.ea t) (t.byteReg s)

/-- R206. -/
def execLdbImm (dst : MemOp) (imm : Byte) (st : State) : Out :=
  need (dst.pairs st.segmented) .oddPair <| finish st (dst.extWords + 1) fun t => t.writeByte .data (dst.ea t) imm

/-! ### LDL -/

/-- R207 mode R. -/
def execLdlR (d s : Reg) (st : State) : Out :=
  need (evenReg s && evenReg d) .oddPair <| finish st 0 fun t => t.setLongReg d (t.longReg s)

/-- R207 mode IM. -/
def execLdlIM (d : Reg) (imm : Long) (st : State) : Out :=
  need (evenReg d) .oddPair <| finish st 2 fun t => t.setLongReg d imm

/-- R207 modes IR, DA, X, BA, BX. -/
def execLdlMem (d : Reg) (src : LdMem) (st : State) : Out :=
  need (src.pairs st.segmented && evenReg d) .oddPair <|
    finish st src.extWords fun t => loadFrom longW d (src.ea t) t

/-- R208. -/
def execLdlTo (dst : LdMem) (s : Reg) (st : State) : Out :=
  need (dst.pairs st.segmented && evenReg s) .oddPair <|
    finish st dst.extWords fun t => t.writeLong .data (dst.ea t) (t.longReg s)

/-! ### LDR, LDRB, LDRL -/

/-- R209. -/
def execLdrLoad (d : Reg) (disp : Word) (st : State) : Out :=
  finish st 1 fun t => loadFrom wordW d (t.relative disp) t

/-- R210. -/
def execLdrStore (disp : Word) (s : Reg) (st : State) : Out :=
  finish st 1 fun t => t.writeWord .data (t.relative disp) (t.reg s)

/-- R211. -/
def execLdrbLoad (d : Reg) (disp : Word) (st : State) : Out :=
  finish st 1 fun t => t.loadByte d (t.relative disp)

/-- R212. -/
def execLdrbStore (disp : Word) (s : Reg) (st : State) : Out :=
  finish st 1 fun t => t.writeByte .data (t.relative disp) (t.byteReg s)

/-- R213. -/
def execLdrlLoad (d : Reg) (disp : Word) (st : State) : Out :=
  need (evenReg d) .oddPair <| finish st 1 fun t => loadFrom longW d (t.relative disp) t

/-- R214. -/
def execLdrlStore (disp : Word) (s : Reg) (st : State) : Out :=
  need (evenReg s) .oddPair <| finish st 1 fun t => t.writeLong .data (t.relative disp) (t.longReg s)

/-! ### Addresses and constants -/

/-- R215: LDA. Nothing is accessed, and bit 0 of the address is kept. -/
def execLda (d : Reg) (src : LdMem) (st : State) : Out :=
  need (src.pairs st.segmented && ptrReg st.segmented d) .oddPair <|
    finish st src.extWords fun t => t.loadAddress d (src.ea t)

/-- R216: LDAR. -/
def execLdar (d : Reg) (disp : Word) (st : State) : Out :=
  need (ptrReg st.segmented d) .oddPair <| finish st 1 fun t => t.loadAddress d (t.relative disp)

/-- R217: LDK. -/
def execLdk (d : Reg) (n : BitVec 4) (st : State) : Out := finish st 0 fun t => t.setReg d (n.setWidth 16)

/-! ### LDM -/

/-- R218: the count field is one less than the number of words. -/
def execLdm (d : Reg) (src : MemOp) (n : BitVec 4) (st : State) : Out :=
  need (src.pairs st.segmented) .oddPair <|
    finish st (src.extWords + 1) fun t => t.loadMultiple (wordAlign (src.ea t)) d (n.toNat + 1)

/-- R219. -/
def execLdmTo (dst : MemOp) (s : Reg) (n : BitVec 4) (st : State) : Out :=
  need (dst.pairs st.segmented) .oddPair <|
    finish st (dst.extWords + 1) fun t => t.storeMultiple (wordAlign (dst.ea t)) s (n.toNat + 1)

/-! ### EX, EXB -/

/-- R220. -/
def execEx (d : Reg) (src : RegMem) (st : State) : Out :=
  need (src.pairs st.segmented) .oddPair <| finish st src.extWords (exchange wordW d src)

/-- R221. -/
def execExb (d : Reg) (src : RegMem) (st : State) : Out :=
  need (src.pairs st.segmented) .oddPair <| finish st src.extWords (exchange byteW d src)

/-! ### PUSH, POP -/

/-- R222: the source is read before the stack pointer is decremented. -/
def execPush (d : Reg) (src : Source Word) (st : State) : Out :=
  need (src.pairs st.segmented && ptrReg st.segmented d) .oddPair <|
    finish st (src.extWords 1) fun t => (src.touch wordW t).pushWord d (src.value wordW t)

/-- R223. -/
def execPushl (d : Reg) (src : RegMem) (st : State) : Out :=
  need (src.pairsL st.segmented && ptrReg st.segmented d) .oddPair <|
    finish st src.extWords fun t => ((src.place t).touch longW t).pushLong d ((src.place t).get longW t)

/-- R224: the destination's address is computed first, then the word is popped, then written. -/
def execPop (dst : RegMem) (s : Reg) (st : State) : Out :=
  need (dst.pairs st.segmented && ptrReg st.segmented s) .oddPair <|
    finish st dst.extWords fun t => (dst.place t).put wordW (t.dropWord s) (t.topWord s)

/-- R225. -/
def execPopl (dst : RegMem) (s : Reg) (st : State) : Out :=
  need (dst.pairsL st.segmented && ptrReg st.segmented s) .oddPair <|
    finish st dst.extWords fun t => (dst.place t).put longW (t.dropLong s) (t.topLong s)

/-! ### CLR, CLRB -/

/-- R226: the destination is written, not read. DEDUCED (log 31), unsafe for a claim about SEGTRAP: R151 and R102 list
CLR among the destinations that are read and written. -/
def execClr (dst : RegMem) (st : State) : Out :=
  need (dst.pairs st.segmented) .oddPair <| finish st dst.extWords fun t => (dst.place t).put wordW t 0

/-- R227. DEDUCED (log 31), unsafe for a claim about SEGTRAP: the destination is not read, as in R226. -/
def execClrb (dst : RegMem) (st : State) : Out :=
  need (dst.pairs st.segmented) .oddPair <| finish st dst.extWords fun t => (dst.place t).put byteW t 0

end Sys2Proof.Machine
end

