-- ==== Sys2Proof/Machine/InOut.lean ====
section
/-!
DEFINITION. The meanings of the input and output instructions (46_io.md). All are privileged (R440). A read answers
what the host's bus answers after the transactions so far (log 5); every transaction is recorded.
-/

namespace Sys2Proof.Machine

open Sys2Proof

/-! ### Shared (R100, R440) -/

/-- How I/O transfers of one width are made. -/
structure IoWidth (n : Nat) where
  input    : State → Word → IoMode → BitVec n
  inEvent  : Word → IoMode → BitVec n → IoEvent
  outEvent : Word → BitVec n → IoMode → IoEvent

/-- Byte transfers. -/
def byteIo : IoWidth 8 := ⟨State.ioByte, .readByte, .writeByte⟩

/-- Word transfers. -/
def wordIo : IoWidth 16 := ⟨State.ioWord, .readWord, .writeWord⟩

/-- R441, R442, R445, R446: a value read from a port into a register; no flags. -/
def inputTo {n : Nat} (io : IoWidth n) (w : Width n) (mode : IoMode) (d : Reg) (port : Word) (t : State) : State :=
  let v := io.input t port mode
  w.setReg (t.ioEvent (io.inEvent port mode v)) d v

/-- R443, R444, R447, R448: a register written to a port; no flags. -/
def outputFrom {n : Nat} (io : IoWidth n) (w : Width n) (mode : IoMode) (port : Word) (s : Reg) (t : State) : State :=
  t.ioEvent (io.outEvent port (w.getReg t s) mode)

/-- R440: the flags of block I/O: PV by the counter, Z free. -/
def countIo (r : Reg) (z : Bool) (t : State) : State := ((t.countDown r).setFlags { z := some z }).drawn

/-- R449 to R456, R465 to R472: one element read from the port in `s` to the memory pointer `d`. -/
def inputBlock {n : Nat} (io : IoWidth n) (w : Width n) (mode : IoMode) (k : Word) (d s r : Reg)
    (t : State) : State :=
  let v := io.input t (t.reg s) mode
  let t1 := w.store (t.ioEvent (io.inEvent (t.reg s) mode v)) (t.pointer d) v
  countIo r t.draw.z (t1.stepPointer d k)

/-- R457 to R464, R473 to R480: one element written from the memory pointer `s` to the port in `d`. -/
def outputBlock {n : Nat} (io : IoWidth n) (w : Width n) (mode : IoMode) (k : Word) (d s r : Reg)
    (t : State) : State :=
  let t1 := (w.touch t (t.pointer s)).ioEvent (io.outEvent (t.reg d) (w.load t (t.pointer s)) mode)
  countIo r t.draw.z (t1.stepPointer s k)

/-! ### Single transfers -/

/-- R441. -/
def execInw (d : Reg) (src : PortOp) (st : State) : Out :=
  priv st <| finish st src.extWords fun t => inputTo wordIo wordW .normal d (src.port t) t

/-- R442. -/
def execInb (d : Reg) (src : PortOp) (st : State) : Out :=
  priv st <| finish st src.extWords fun t => inputTo byteIo byteW .normal d (src.port t) t

/-- R443. -/
def execOutw (dst : PortOp) (s : Reg) (st : State) : Out :=
  priv st <| finish st dst.extWords fun t => outputFrom wordIo wordW .normal (dst.port t) s t

/-- R444. -/
def execOutb (dst : PortOp) (s : Reg) (st : State) : Out :=
  priv st <| finish st dst.extWords fun t => outputFrom byteIo byteW .normal (dst.port t) s t

/-- R445. -/
def execSin (d : Reg) (port : Word) (st : State) : Out :=
  priv st <| finish st 1 (inputTo wordIo wordW .special d port)

/-- R446. -/
def execSinb (d : Reg) (port : Word) (st : State) : Out :=
  priv st <| finish st 1 (inputTo byteIo byteW .special d port)

/-- R447. -/
def execSout (port : Word) (s : Reg) (st : State) : Out :=
  priv st <| finish st 1 (outputFrom wordIo wordW .special port s)

/-- R448. -/
def execSoutb (port : Word) (s : Reg) (st : State) : Out :=
  priv st <| finish st 1 (outputFrom byteIo byteW .special port s)

/-! ### Block transfers -/

/-- R449. -/
def execIni (d s r : Reg) (st : State) : Out :=
  priv st <| need (ptrReg st.segmented d) .oddPair <| finish st 1 fun t =>
    inputBlock wordIo wordW .normal 2 d s r t

/-- R450. -/
def execInib (d s r : Reg) (st : State) : Out :=
  priv st <| need (ptrReg st.segmented d) .oddPair <| finish st 1 fun t =>
    inputBlock byteIo byteW .normal 1 d s r t

/-- R451. -/
def execInir (d s r : Reg) (st : State) : Out :=
  priv st <| need (ptrReg st.segmented d) .oddPair <| finish st 1 fun t =>
    repeatWhileCount r (inputBlock wordIo wordW .normal 2 d s r t)

/-- R452. -/
def execInirb (d s r : Reg) (st : State) : Out :=
  priv st <| need (ptrReg st.segmented d) .oddPair <| finish st 1 fun t =>
    repeatWhileCount r (inputBlock byteIo byteW .normal 1 d s r t)

/-- R453. -/
def execInd (d s r : Reg) (st : State) : Out :=
  priv st <| need (ptrReg st.segmented d) .oddPair <| finish st 1 fun t =>
    inputBlock wordIo wordW .normal (-2) d s r t

/-- R454. -/
def execIndb (d s r : Reg) (st : State) : Out :=
  priv st <| need (ptrReg st.segmented d) .oddPair <| finish st 1 fun t =>
    inputBlock byteIo byteW .normal (-1) d s r t

/-- R455. -/
def execIndr (d s r : Reg) (st : State) : Out :=
  priv st <| need (ptrReg st.segmented d) .oddPair <| finish st 1 fun t =>
    repeatWhileCount r (inputBlock wordIo wordW .normal (-2) d s r t)

/-- R456. -/
def execIndrb (d s r : Reg) (st : State) : Out :=
  priv st <| need (ptrReg st.segmented d) .oddPair <| finish st 1 fun t =>
    repeatWhileCount r (inputBlock byteIo byteW .normal (-1) d s r t)

/-- R457. -/
def execOuti (d s r : Reg) (st : State) : Out :=
  priv st <| need (ptrReg st.segmented s) .oddPair <| finish st 1 fun t =>
    outputBlock wordIo wordW .normal 2 d s r t

/-- R458. -/
def execOutib (d s r : Reg) (st : State) : Out :=
  priv st <| need (ptrReg st.segmented s) .oddPair <| finish st 1 fun t =>
    outputBlock byteIo byteW .normal 1 d s r t

/-- R459. -/
def execOtir (d s r : Reg) (st : State) : Out :=
  priv st <| need (ptrReg st.segmented s) .oddPair <| finish st 1 fun t =>
    repeatWhileCount r (outputBlock wordIo wordW .normal 2 d s r t)

/-- R460. -/
def execOtirb (d s r : Reg) (st : State) : Out :=
  priv st <| need (ptrReg st.segmented s) .oddPair <| finish st 1 fun t =>
    repeatWhileCount r (outputBlock byteIo byteW .normal 1 d s r t)

/-- R461. -/
def execOutd (d s r : Reg) (st : State) : Out :=
  priv st <| need (ptrReg st.segmented s) .oddPair <| finish st 1 fun t =>
    outputBlock wordIo wordW .normal (-2) d s r t

/-- R462. -/
def execOutdb (d s r : Reg) (st : State) : Out :=
  priv st <| need (ptrReg st.segmented s) .oddPair <| finish st 1 fun t =>
    outputBlock byteIo byteW .normal (-1) d s r t

/-- R463. -/
def execOtdr (d s r : Reg) (st : State) : Out :=
  priv st <| need (ptrReg st.segmented s) .oddPair <| finish st 1 fun t =>
    repeatWhileCount r (outputBlock wordIo wordW .normal (-2) d s r t)

/-- R464. -/
def execOtdrb (d s r : Reg) (st : State) : Out :=
  priv st <| need (ptrReg st.segmented s) .oddPair <| finish st 1 fun t =>
    repeatWhileCount r (outputBlock byteIo byteW .normal (-1) d s r t)

/-- R465. -/
def execSini (d s r : Reg) (st : State) : Out :=
  priv st <| need (ptrReg st.segmented d) .oddPair <| finish st 1 fun t =>
    inputBlock wordIo wordW .special 2 d s r t

/-- R466. -/
def execSinib (d s r : Reg) (st : State) : Out :=
  priv st <| need (ptrReg st.segmented d) .oddPair <| finish st 1 fun t =>
    inputBlock byteIo byteW .special 1 d s r t

/-- R467. -/
def execSinir (d s r : Reg) (st : State) : Out :=
  priv st <| need (ptrReg st.segmented d) .oddPair <| finish st 1 fun t =>
    repeatWhileCount r (inputBlock wordIo wordW .special 2 d s r t)

/-- R468. -/
def execSinirb (d s r : Reg) (st : State) : Out :=
  priv st <| need (ptrReg st.segmented d) .oddPair <| finish st 1 fun t =>
    repeatWhileCount r (inputBlock byteIo byteW .special 1 d s r t)

/-- R469. -/
def execSind (d s r : Reg) (st : State) : Out :=
  priv st <| need (ptrReg st.segmented d) .oddPair <| finish st 1 fun t =>
    inputBlock wordIo wordW .special (-2) d s r t

/-- R470. -/
def execSindb (d s r : Reg) (st : State) : Out :=
  priv st <| need (ptrReg st.segmented d) .oddPair <| finish st 1 fun t =>
    inputBlock byteIo byteW .special (-1) d s r t

/-- R471. -/
def execSindr (d s r : Reg) (st : State) : Out :=
  priv st <| need (ptrReg st.segmented d) .oddPair <| finish st 1 fun t =>
    repeatWhileCount r (inputBlock wordIo wordW .special (-2) d s r t)

/-- R472. -/
def execSindrb (d s r : Reg) (st : State) : Out :=
  priv st <| need (ptrReg st.segmented d) .oddPair <| finish st 1 fun t =>
    repeatWhileCount r (inputBlock byteIo byteW .special (-1) d s r t)

/-- R473. -/
def execSouti (d s r : Reg) (st : State) : Out :=
  priv st <| need (ptrReg st.segmented s) .oddPair <| finish st 1 fun t =>
    outputBlock wordIo wordW .special 2 d s r t

/-- R474. -/
def execSoutib (d s r : Reg) (st : State) : Out :=
  priv st <| need (ptrReg st.segmented s) .oddPair <| finish st 1 fun t =>
    outputBlock byteIo byteW .special 1 d s r t

/-- R475. -/
def execSotir (d s r : Reg) (st : State) : Out :=
  priv st <| need (ptrReg st.segmented s) .oddPair <| finish st 1 fun t =>
    repeatWhileCount r (outputBlock wordIo wordW .special 2 d s r t)

/-- R476. -/
def execSotirb (d s r : Reg) (st : State) : Out :=
  priv st <| need (ptrReg st.segmented s) .oddPair <| finish st 1 fun t =>
    repeatWhileCount r (outputBlock byteIo byteW .special 1 d s r t)

/-- R477. -/
def execSoutd (d s r : Reg) (st : State) : Out :=
  priv st <| need (ptrReg st.segmented s) .oddPair <| finish st 1 fun t =>
    outputBlock wordIo wordW .special (-2) d s r t

/-- R478. -/
def execSoutdb (d s r : Reg) (st : State) : Out :=
  priv st <| need (ptrReg st.segmented s) .oddPair <| finish st 1 fun t =>
    outputBlock byteIo byteW .special (-1) d s r t

/-- R479. -/
def execSotdr (d s r : Reg) (st : State) : Out :=
  priv st <| need (ptrReg st.segmented s) .oddPair <| finish st 1 fun t =>
    repeatWhileCount r (outputBlock wordIo wordW .special (-2) d s r t)

/-- R480. -/
def execSotdrb (d s r : Reg) (st : State) : Out :=
  priv st <| need (ptrReg st.segmented s) .oddPair <| finish st 1 fun t =>
    repeatWhileCount r (outputBlock byteIo byteW .special (-1) d s r t)

end Sys2Proof.Machine
end

