-- ==== Sys2Proof/Machine/Logic.lean ====
section
/-!
DEFINITION. The meanings of the logical, test and bit instructions (42_logical_bit.md).
-/

namespace Sys2Proof.Machine

open Sys2Proof

/-! ### Shared -/

/-- A byte logical operation with the flags of R300. -/
def logicB (f : Byte → Byte → Byte) (a b : Byte) : Byte × FlagUpdate := (f a b, logicFlagsB (f a b))

/-- A word logical operation with the flags of R300. -/
def logicW (p : WordLogicPv) (f : Word → Word → Word) (a b : Word) : Word × FlagUpdate :=
  (f a b, logicFlagsW p (f a b))

/-- R312, R313: the operand becomes all ones; S is its old sign. -/
def testAndSet {n : Nat} (x : BitVec n) : BitVec n × FlagUpdate := (BitVec.allOnes n, { s := some x.msb })

/-- R316, R317, R323, R324: Z tells whether the bits of the mask are all 0. -/
def testMask {n : Nat} (m : BitVec n) (x : BitVec n) : FlagUpdate := { z := some (isZero (x &&& m)) }

/-- R318, R319, R325, R326: the bits of the mask set; no flags. -/
def setMask {n : Nat} (m : BitVec n) (x : BitVec n) : BitVec n × FlagUpdate := (x ||| m, {})

/-- R320, R321, R327, R328: the bits of the mask cleared; no flags. -/
def resetMask {n : Nat} (m : BitVec n) (x : BitVec n) : BitVec n × FlagUpdate := (x &&& ~~~m, {})

/-- R316, R318, R320: the mask of a static bit number of a word. -/
def wordBit (b : BitVec 4) : Word := 1#16 <<< b.toNat

/-- R317, R319, R321: the mask of a static bit number of a byte; bit 3 of the field is ignored. -/
def byteBit (b : BitVec 4) : Byte := 1#8 <<< (b.toNat % 8)

/-- The flags of `op(R[d])`; nothing is stored. -/
def inspectReg {n : Nat} (w : Width n) (d : Reg) (op : BitVec n → FlagUpdate) (s : State) : State :=
  s.setFlags (op (w.getReg s d))

/-! ### AND, OR, XOR -/

/-- R301. -/
def execAnd (d : Reg) (src : Source Word) (st : State) : Out :=
  need (src.pairs st.segmented) .oddPair <|
    finish st (src.extWords 1) (binary wordW d src (logicW st.cfg.wordLogicPv (· &&& ·)))

/-- R302. -/
def execAndb (d : Reg) (src : Source Byte) (st : State) : Out :=
  need (src.pairs st.segmented) .oddPair <| finish st (src.extWords 1) (binary byteW d src (logicB (· &&& ·)))

/-- R303. -/
def execOr (d : Reg) (src : Source Word) (st : State) : Out :=
  need (src.pairs st.segmented) .oddPair <|
    finish st (src.extWords 1) (binary wordW d src (logicW st.cfg.wordLogicPv (· ||| ·)))

/-- R304. -/
def execOrb (d : Reg) (src : Source Byte) (st : State) : Out :=
  need (src.pairs st.segmented) .oddPair <| finish st (src.extWords 1) (binary byteW d src (logicB (· ||| ·)))

/-- R305. -/
def execXor (d : Reg) (src : Source Word) (st : State) : Out :=
  need (src.pairs st.segmented) .oddPair <|
    finish st (src.extWords 1) (binary wordW d src (logicW st.cfg.wordLogicPv (· ^^^ ·)))

/-- R306. -/
def execXorb (d : Reg) (src : Source Byte) (st : State) : Out :=
  need (src.pairs st.segmented) .oddPair <| finish st (src.extWords 1) (binary byteW d src (logicB (· ^^^ ·)))

/-! ### COM, TEST, TSET -/

/-- R307. -/
def execCom (dst : RegMem) (st : State) : Out :=
  need (dst.pairs st.segmented) .oddPair <|
    finish st dst.extWords (modify wordW dst fun x => logicW st.cfg.wordLogicPv (· ^^^ ·) x 0xFFFF)

/-- R308. -/
def execComb (dst : RegMem) (st : State) : Out :=
  need (dst.pairs st.segmented) .oddPair <| finish st dst.extWords (modify byteW dst fun x => logicB (· ^^^ ·) x 0xFF)

/-- R309. -/
def execTest (dst : RegMem) (st : State) : Out :=
  need (dst.pairs st.segmented) .oddPair <|
    finish st dst.extWords (inspect wordW dst (logicFlagsW st.cfg.wordLogicPv))

/-- R310. -/
def execTestb (dst : RegMem) (st : State) : Out :=
  need (dst.pairs st.segmented) .oddPair <| finish st dst.extWords (inspect byteW dst logicFlagsB)

/-- R311. -/
def execTestl (dst : RegMem) (st : State) : Out :=
  need (dst.pairsL st.segmented) .oddPair <|
    finish st dst.extWords (inspect longW dst (logicFlagsW st.cfg.wordLogicPv))

/-- R312. -/
def execTset (dst : RegMem) (st : State) : Out :=
  need (dst.pairs st.segmented) .oddPair <| finish st dst.extWords (modify wordW dst testAndSet)

/-- R313. -/
def execTsetb (dst : RegMem) (st : State) : Out :=
  need (dst.pairs st.segmented) .oddPair <| finish st dst.extWords (modify byteW dst testAndSet)

/-! ### TCC, TCCB -/

/-- R314. -/
def execTcc (c : CondCode) (d : Reg) (st : State) : Out := finish st 0 fun t =>
  t.setReg d (testCondition t.cfg.tccFalse (cc c t.fcw) (t.reg d))

/-- R315. -/
def execTccb (c : CondCode) (d : Reg) (st : State) : Out := finish st 0 fun t =>
  t.setByteReg d (testCondition t.cfg.tccFalse (cc c t.fcw) (t.byteReg d))

/-! ### BIT, SET, RES with a static bit number -/

/-- R316. -/
def execBit (dst : RegMem) (b : BitVec 4) (st : State) : Out :=
  need (dst.pairs st.segmented) .oddPair <| finish st dst.extWords (inspect wordW dst (testMask (wordBit b)))

/-- R317. -/
def execBitb (dst : RegMem) (b : BitVec 4) (st : State) : Out :=
  need (dst.pairs st.segmented) .oddPair <| finish st dst.extWords (inspect byteW dst (testMask (byteBit b)))

/-- R318. -/
def execSet (dst : RegMem) (b : BitVec 4) (st : State) : Out :=
  need (dst.pairs st.segmented) .oddPair <| finish st dst.extWords (modify wordW dst (setMask (wordBit b)))

/-- R319. -/
def execSetb (dst : RegMem) (b : BitVec 4) (st : State) : Out :=
  need (dst.pairs st.segmented) .oddPair <| finish st dst.extWords (modify byteW dst (setMask (byteBit b)))

/-- R320. -/
def execRes (dst : RegMem) (b : BitVec 4) (st : State) : Out :=
  need (dst.pairs st.segmented) .oddPair <| finish st dst.extWords (modify wordW dst (resetMask (wordBit b)))

/-- R321. -/
def execResb (dst : RegMem) (b : BitVec 4) (st : State) : Out :=
  need (dst.pairs st.segmented) .oddPair <| finish st dst.extWords (modify byteW dst (resetMask (byteBit b)))

/-! ### BIT, SET, RES with a dynamic bit number (R322) -/

/-- R323. -/
def execBitDyn (d s : Reg) (st : State) : Out := finish st 1 fun t =>
  inspectReg wordW d (testMask (dynamicMask t.cfg.bitdynBits 16 (t.reg s))) t

/-- R324. -/
def execBitbDyn (d s : Reg) (st : State) : Out := finish st 1 fun t =>
  inspectReg byteW d (testMask (dynamicMask t.cfg.bitdynBits 8 (t.reg s))) t

/-- R325. -/
def execSetDyn (d s : Reg) (st : State) : Out := finish st 1 fun t =>
  modifyReg wordW d (setMask (dynamicMask t.cfg.bitdynBits 16 (t.reg s))) t

/-- R326. -/
def execSetbDyn (d s : Reg) (st : State) : Out := finish st 1 fun t =>
  modifyReg byteW d (setMask (dynamicMask t.cfg.bitdynBits 8 (t.reg s))) t

/-- R327. -/
def execResDyn (d s : Reg) (st : State) : Out := finish st 1 fun t =>
  modifyReg wordW d (resetMask (dynamicMask t.cfg.bitdynBits 16 (t.reg s))) t

/-- R328. -/
def execResbDyn (d s : Reg) (st : State) : Out := finish st 1 fun t =>
  modifyReg byteW d (resetMask (dynamicMask t.cfg.bitdynBits 8 (t.reg s))) t

end Sys2Proof.Machine
end

