-- ==== Sys2Proof/Machine/Shift.lean ====
section
/-!
DEFINITION. The meanings of the shift, rotate and digit-rotate instructions (43_shift_rotate.md). Each uses up one draw
(log 4), whether or not its rule leaves a value open on the operands at hand.
-/

namespace Sys2Proof.Machine

open Sys2Proof

/-! ### Shared -/

/-- R349 to R360: the shift of a register by the signed count held in the low byte of `c`. -/
def shiftReg {n : Nat} (w : Width n) (arith : Bool) (d : Reg) (c : Word) (s : State) : State :=
  modifyRegDraw w d (fun free x => shift arith x (shiftCount c) free) s

/-- R361, R362: the two bytes `(link, source)` written by a digit rotate, the source first; Z and S are free. -/
def digitRotate (l s : Reg) (f : Byte → Byte → Byte × Byte) (t : State) : State :=
  let r := f (t.byteReg l) (t.byteReg s)
  (((t.setByteReg s r.2).setByteReg l r.1).setFlags { z := some t.draw.z, s := some t.draw.s }).drawn

/-- R361: the link byte and the source byte after a rotate left. -/
def digitsLeft (link src : Byte) : Byte × Byte :=
  (link.extractLsb' 4 4 ++ src.extractLsb' 4 4, src.extractLsb' 0 4 ++ link.extractLsb' 0 4)

/-- R362: the link byte and the source byte after a rotate right. -/
def digitsRight (link src : Byte) : Byte × Byte :=
  (link.extractLsb' 4 4 ++ src.extractLsb' 0 4, link.extractLsb' 0 4 ++ src.extractLsb' 4 4)

/-! ### Rotates -/

/-- R341. -/
def execRl (d : Reg) (two : Bool) (st : State) : Out :=
  finish st 0 (modifyRegDraw wordW d fun free x => rotateLeft x (rotateCount two) free)

/-- R342. -/
def execRlb (d : Reg) (two : Bool) (st : State) : Out :=
  finish st 0 (modifyRegDraw byteW d fun free x => rotateLeft x (rotateCount two) free)

/-- R343. -/
def execRlc (d : Reg) (two : Bool) (st : State) : Out :=
  finish st 0 (modifyRegDraw wordW d fun free x => rotateLeftCarry x (flagC st.fcw) (rotateCount two) free)

/-- R344. -/
def execRlcb (d : Reg) (two : Bool) (st : State) : Out :=
  finish st 0 (modifyRegDraw byteW d fun free x => rotateLeftCarry x (flagC st.fcw) (rotateCount two) free)

/-- R345. -/
def execRr (d : Reg) (two : Bool) (st : State) : Out :=
  finish st 0 (modifyRegDraw wordW d fun free x => rotateRight x (rotateCount two) free)

/-- R346. -/
def execRrb (d : Reg) (two : Bool) (st : State) : Out :=
  finish st 0 (modifyRegDraw byteW d fun free x => rotateRight x (rotateCount two) free)

/-- R347. -/
def execRrc (d : Reg) (two : Bool) (st : State) : Out :=
  finish st 0 (modifyRegDraw wordW d fun free x => rotateRightCarry x (flagC st.fcw) (rotateCount two) free)

/-- R348. -/
def execRrcb (d : Reg) (two : Bool) (st : State) : Out :=
  finish st 0 (modifyRegDraw byteW d fun free x => rotateRightCarry x (flagC st.fcw) (rotateCount two) free)

/-! ### Static shifts -/

/-- R349. -/
def execSla (d : Reg) (count : Word) (st : State) : Out := finish st 1 (shiftReg wordW true d count)

/-- R350. -/
def execSlab (d : Reg) (count : Word) (st : State) : Out := finish st 1 (shiftReg byteW true d count)

/-- R351. -/
def execSlal (d : Reg) (count : Word) (st : State) : Out :=
  need (evenReg d) .oddPair <| finish st 1 (shiftReg longW true d count)

/-- R352. -/
def execSll (d : Reg) (count : Word) (st : State) : Out := finish st 1 (shiftReg wordW false d count)

/-- R353. -/
def execSllb (d : Reg) (count : Word) (st : State) : Out := finish st 1 (shiftReg byteW false d count)

/-- R354. -/
def execSlll (d : Reg) (count : Word) (st : State) : Out :=
  need (evenReg d) .oddPair <| finish st 1 (shiftReg longW false d count)

/-! ### Dynamic shifts -/

/-- R355. -/
def execSda (d s : Reg) (st : State) : Out := finish st 1 fun t => shiftReg wordW true d (t.reg s) t

/-- R356. -/
def execSdab (d s : Reg) (st : State) : Out := finish st 1 fun t => shiftReg byteW true d (t.reg s) t

/-- R357. -/
def execSdal (d s : Reg) (st : State) : Out :=
  need (evenReg d) .oddPair <| finish st 1 fun t => shiftReg longW true d (t.reg s) t

/-- R358. -/
def execSdl (d s : Reg) (st : State) : Out := finish st 1 fun t => shiftReg wordW false d (t.reg s) t

/-- R359. -/
def execSdlb (d s : Reg) (st : State) : Out := finish st 1 fun t => shiftReg byteW false d (t.reg s) t

/-- R360. -/
def execSdll (d s : Reg) (st : State) : Out :=
  need (evenReg d) .oddPair <| finish st 1 fun t => shiftReg longW false d (t.reg s) t

/-! ### Digit rotates -/

/-- R361. -/
def execRldb (l s : Reg) (st : State) : Out := finish st 0 (digitRotate l s digitsLeft)

/-- R362. -/
def execRrdb (l s : Reg) (st : State) : Out := finish st 0 (digitRotate l s digitsRight)

end Sys2Proof.Machine
end

