-- ==== Sys2Proof/Machine/System.lean ====
section
/-!
DEFINITION. The meanings of the system, control and privileged instructions (47_system.md). The privileged ones begin
with `priv` (R530).
-/

namespace Sys2Proof.Machine

open Sys2Proof

/-! ### Shared -/

/-- R162, R500 `ctl(k)`; codes 0 and 1 name no register. -/
def State.control (s : State) (k : BitVec 3) : Option Word :=
  match k with
  | 2 => some s.fcw
  | 3 => some s.refresh
  | 4 => some s.psapSeg
  | 5 => some s.psapOff
  | 6 => some s.nspSeg
  | 7 => some s.nspOff
  | _ => none

/-- R501: a control register written; codes 0 and 1 name none. -/
def State.setControl (s : State) (k : BitVec 3) (v : Word) : Option State :=
  match k with
  | 2 => some (s.changeFcw v)
  | 3 => some { s with refresh := v }
  | 4 => some { s with psapSeg := v }
  | 5 => some { s with psapOff := v }
  | 6 => some { s with nspSeg := v }
  | 7 => some { s with nspOff := v }
  | _ => none

/-- R502: a reserved LDCTL code, under `LDCTL_RESERVED`. -/
def State.reservedControl (s : State) : State :=
  match s.cfg.ldctlReserved with
  | .nop => s
  | .trap => s.raise .trap

/-- R510: whether VI is selected by the operand bits; a bit of 0 selects. -/
def selVi (p : EidiBitMap) (a b : BitVec 1) : Bool :=
  match p with
  | .doc => b == 0
  | .zilog => a == 0

/-- R510: whether NVI is selected by the operand bits. -/
def selNvi (p : EidiBitMap) (a b : BitVec 1) : Bool :=
  match p with
  | .doc => a == 0
  | .zilog => b == 0

/-- R511, R512: the selected interrupt enables written. -/
def State.setEnables (s : State) (a b : BitVec 1) (on : Bool) : State :=
  { s with
    fcw := putFlag (if selVi s.cfg.eidiBitMap a b then some on else none) 12
      (putFlag (if selNvi s.cfg.eidiBitMap a b then some on else none) 11 s.fcw) }

/-- R161: the FCW bits a flag mask names. -/
def flagMask (f : BitVec 4) : Word := 0#8 ++ f ++ 0#4

/-- R503: the program status in memory at `a`, as (FCW, PC); the layout is the mode's. -/
def State.programStatus (s : State) (a : Addr) : Word × Addr :=
  if s.segmented then
    (s.readWord .data (s.addrAdd a 2),
      segAddr (s.readWord .data (s.addrAdd a 4)) (s.readWord .data (s.addrAdd a 6)))
  else (s.readWord .data a, s.nonsegAddr (s.readWord .data (s.addrAdd a 2)))

/-- R503: the accesses. -/
def State.touchStatus (s : State) (a : Addr) : State :=
  if s.segmented then
    ((s.touchWord .data (s.addrAdd a 2)).touchWord .data (s.addrAdd a 4)).touchWord .data (s.addrAdd a 6)
  else (s.touchWord .data a).touchWord .data (s.addrAdd a 2)

/-! ### Control registers -/

/-- R500, R502. -/
def execLdctlRead (d : Reg) (k : BitVec 3) (st : State) : Out := priv st <| finish st 0 fun t =>
  match t.control k with
  | some v => t.setReg d v
  | none => t.reservedControl

/-- R501, R502. -/
def execLdctlWrite (s : Reg) (k : BitVec 3) (st : State) : Out := priv st <| finish st 0 fun t =>
  (t.setControl k (t.reg s)).getD t.reservedControl

/-- R503: both words are read before either is installed. -/
def execLdps (src : MemOp) (st : State) : Out :=
  priv st <| need (src.pairs st.segmented) .oddPair <| finish st src.extWords fun t =>
    let ps := t.programStatus (src.ea t)
    ((t.touchStatus (src.ea t)).changeFcw ps.1).setPc ps.2

/-! ### Flags -/

/-- R505. -/
def execLdctlbRead (d : Reg) (st : State) : Out := finish st 0 fun t => t.setByteReg d (lowByte t.fcw)

/-- R506: bits 1:0 of FCW stay 0. -/
def execLdctlbWrite (s : Reg) (st : State) : Out := finish st 0 fun t =>
  { t with fcw := t.fcw.extractLsb' 8 8 ++ ((t.byteReg s).extractLsb' 2 6 ++ 0#2) }

/-- R507. -/
def execSetflg (mask : BitVec 4) (st : State) : Out := finish st 0 fun t =>
  { t with fcw := t.fcw ||| flagMask mask }

/-- R508. -/
def execResflg (mask : BitVec 4) (st : State) : Out := finish st 0 fun t =>
  { t with fcw := t.fcw &&& ~~~(flagMask mask) }

/-- R509. -/
def execComflg (mask : BitVec 4) (st : State) : Out := finish st 0 fun t =>
  { t with fcw := t.fcw ^^^ flagMask mask }

/-! ### Interrupt enables, halt, return -/

/-- R511. -/
def execDi (a b : BitVec 1) (st : State) : Out := priv st <| finish st 0 fun t => t.setEnables a b false

/-- R512. -/
def execEi (a b : BitVec 1) (st : State) : Out := priv st <| finish st 0 fun t => t.setEnables a b true

/-- R513. -/
def execHalt (st : State) : Out := priv st <| finish st 0 fun t => { t with halt := true }

/-- R514. -/
def execIret (st : State) : Out := priv st <| finish st 0 State.returnFromException

/-- R515. -/
def execNop (st : State) : Out := finish st 0 id

/-! ### Multi-micro -/

/-- R520. -/
def execMset (st : State) : Out := priv st <| finish st 0 fun t => { t with mi := true }

/-- R521. -/
def execMres (st : State) : Out := priv st <| finish st 0 fun t => { t with mi := false }

/-- R522. -/
def execMbit (st : State) : Out := priv st <| finish st 0 fun t => t.setFlags { s := some t.mi }

/-- R523: every result is free. -/
def execMreq (d : Reg) (st : State) : Out := priv st <| finish st 0 fun t =>
  let u := (t.setReg d (t.draw.value.setWidth 16)).setFlags { z := some t.draw.z, s := some t.draw.s }
  { u.drawn with mi := t.draw.mi }

/-! ### Extended and undefined opcodes -/

/-- R526 for the high byte 0x0E. -/
def execExt0E (_imm : BitVec 8) (st : State) : Out := finish st 0 fun t => t.raise .epu

/-- R526 for the high byte 0x0F. -/
def execExt0F (_imm : BitVec 8) (st : State) : Out := finish st 0 fun t => t.raise .epu

/-- R526 for the high byte 0x4E. -/
def execExt4E (_imm : BitVec 8) (st : State) : Out := finish st 0 fun t => t.raise .epu

/-- R526 for the high byte 0x4F. -/
def execExt4F (_imm : BitVec 8) (st : State) : Out := finish st 0 fun t => t.raise .epu

/-- R526 for the high byte 0x8E. -/
def execExt8E (_imm : BitVec 8) (st : State) : Out := finish st 0 fun t => t.raise .epu

/-- R526 for the high byte 0x8F. -/
def execExt8F (_imm : BitVec 8) (st : State) : Out := finish st 0 fun t => t.raise .epu

/-- R527: TRAP in both modes. -/
def execUndefined (_w : Word) (st : State) : Out := finish st 0 fun t => t.raise .trap

end Sys2Proof.Machine
end

