-- ==== Sys2Proof/Machine/Dispatch.lean ====
section
/-! DEFINITION. The meaning of each instruction, one arm per constructor. -/

namespace Sys2Proof.Machine

def exec (i : Instr) (st : State) : Host.Outcome State Fault Refusal :=
  match i with
  | .addb d src => Sys2Proof.Machine.execAddb d src st
  | .add d src => Sys2Proof.Machine.execAdd d src st
  | .subb d src => Sys2Proof.Machine.execSubb d src st
  | .sub d src => Sys2Proof.Machine.execSub d src st
  | .orb d src => Sys2Proof.Machine.execOrb d src st
  | .or d src => Sys2Proof.Machine.execOr d src st
  | .andb d src => Sys2Proof.Machine.execAndb d src st
  | .and d src => Sys2Proof.Machine.execAnd d src st
  | .xorb d src => Sys2Proof.Machine.execXorb d src st
  | .xor d src => Sys2Proof.Machine.execXor d src st
  | .cpb d src => Sys2Proof.Machine.execCpb d src st
  | .cp d src => Sys2Proof.Machine.execCp d src st
  | .cpl d src => Sys2Proof.Machine.execCpl d src st
  | .subl d src => Sys2Proof.Machine.execSubl d src st
  | .ldlIM d imm => Sys2Proof.Machine.execLdlIM d imm st
  | .ldlMem d src => Sys2Proof.Machine.execLdlMem d src st
  | .ldlR d s => Sys2Proof.Machine.execLdlR d s st
  | .addl d src => Sys2Proof.Machine.execAddl d src st
  | .multl d src => Sys2Proof.Machine.execMultl d src st
  | .mult d src => Sys2Proof.Machine.execMult d src st
  | .divl d src => Sys2Proof.Machine.execDivl d src st
  | .div d src => Sys2Proof.Machine.execDiv d src st
  | .ldbIM d imm => Sys2Proof.Machine.execLdbIM d imm st
  | .ldbMem d src => Sys2Proof.Machine.execLdbMem d src st
  | .ldbR d s => Sys2Proof.Machine.execLdbR d s st
  | .ldIM d imm => Sys2Proof.Machine.execLdIM d imm st
  | .ldMem d src => Sys2Proof.Machine.execLdMem d src st
  | .ldR d s => Sys2Proof.Machine.execLdR d s st
  | .adcb d s => Sys2Proof.Machine.execAdcb d s st
  | .adc d s => Sys2Proof.Machine.execAdc d s st
  | .sbcb d s => Sys2Proof.Machine.execSbcb d s st
  | .sbc d s => Sys2Proof.Machine.execSbc d s st
  | .comb dst => Sys2Proof.Machine.execComb dst st
  | .com dst => Sys2Proof.Machine.execCom dst st
  | .cpbImm dst imm => Sys2Proof.Machine.execCpbImm dst imm st
  | .cpImm dst imm => Sys2Proof.Machine.execCpImm dst imm st
  | .negb dst => Sys2Proof.Machine.execNegb dst st
  | .neg dst => Sys2Proof.Machine.execNeg dst st
  | .testb dst => Sys2Proof.Machine.execTestb dst st
  | .test dst => Sys2Proof.Machine.execTest dst st
  | .ldbImm dst imm => Sys2Proof.Machine.execLdbImm dst imm st
  | .ldImm dst imm => Sys2Proof.Machine.execLdImm dst imm st
  | .tsetb dst => Sys2Proof.Machine.execTsetb dst st
  | .tset dst => Sys2Proof.Machine.execTset dst st
  | .clrb dst => Sys2Proof.Machine.execClrb dst st
  | .clr dst => Sys2Proof.Machine.execClr dst st
  | .push d src => Sys2Proof.Machine.execPush d src st
  | .ldctlbRead d => Sys2Proof.Machine.execLdctlbRead d st
  | .ldctlbWrite s => Sys2Proof.Machine.execLdctlbWrite s st
  | .setflg mask => Sys2Proof.Machine.execSetflg mask st
  | .resflg mask => Sys2Proof.Machine.execResflg mask st
  | .comflg mask => Sys2Proof.Machine.execComflg mask st
  | .nop => Sys2Proof.Machine.execNop st
  | .testl dst => Sys2Proof.Machine.execTestl dst st
  | .ldm d src n => Sys2Proof.Machine.execLdm d src n st
  | .ldmTo dst s n => Sys2Proof.Machine.execLdmTo dst s n st
  | .ldlTo dst s => Sys2Proof.Machine.execLdlTo dst s st
  | .jp c dst => Sys2Proof.Machine.execJp c dst st
  | .ret c => Sys2Proof.Machine.execRet c st
  | .call dst => Sys2Proof.Machine.execCall dst st
  | .pushl d src => Sys2Proof.Machine.execPushl d src st
  | .popl dst s => Sys2Proof.Machine.execPopl dst s st
  | .pop dst s => Sys2Proof.Machine.execPop dst s st
  | .resb dst b => Sys2Proof.Machine.execResb dst b st
  | .resbDyn d s => Sys2Proof.Machine.execResbDyn d s st
  | .res dst b => Sys2Proof.Machine.execRes dst b st
  | .resDyn d s => Sys2Proof.Machine.execResDyn d s st
  | .setb dst b => Sys2Proof.Machine.execSetb dst b st
  | .setbDyn d s => Sys2Proof.Machine.execSetbDyn d s st
  | .set dst b => Sys2Proof.Machine.execSet dst b st
  | .setDyn d s => Sys2Proof.Machine.execSetDyn d s st
  | .bitb dst b => Sys2Proof.Machine.execBitb dst b st
  | .bitbDyn d s => Sys2Proof.Machine.execBitbDyn d s st
  | .bit dst b => Sys2Proof.Machine.execBit dst b st
  | .bitDyn d s => Sys2Proof.Machine.execBitDyn d s st
  | .incb dst n => Sys2Proof.Machine.execIncb dst n st
  | .inc dst n => Sys2Proof.Machine.execInc dst n st
  | .decb dst n => Sys2Proof.Machine.execDecb dst n st
  | .dec dst n => Sys2Proof.Machine.execDec dst n st
  | .exb d src => Sys2Proof.Machine.execExb d src st
  | .ex d src => Sys2Proof.Machine.execEx d src st
  | .ldbTo dst s => Sys2Proof.Machine.execLdbTo dst s st
  | .ldTo dst s => Sys2Proof.Machine.execLdTo dst s st
  | .tccb c d => Sys2Proof.Machine.execTccb c d st
  | .tcc c d => Sys2Proof.Machine.execTcc c d st
  | .ldrbLoad d disp => Sys2Proof.Machine.execLdrbLoad d disp st
  | .ldrLoad d disp => Sys2Proof.Machine.execLdrLoad d disp st
  | .ldrbStore disp s => Sys2Proof.Machine.execLdrbStore disp s st
  | .ldrStore disp s => Sys2Proof.Machine.execLdrStore disp s st
  | .ldar d disp => Sys2Proof.Machine.execLdar d disp st
  | .lda d src => Sys2Proof.Machine.execLda d src st
  | .ldrlLoad d disp => Sys2Proof.Machine.execLdrlLoad d disp st
  | .ldrlStore disp s => Sys2Proof.Machine.execLdrlStore disp s st
  | .ldps src => Sys2Proof.Machine.execLdps src st
  | .dab d => Sys2Proof.Machine.execDab d st
  | .extsb d => Sys2Proof.Machine.execExtsb d st
  | .extsl d => Sys2Proof.Machine.execExtsl d st
  | .exts d => Sys2Proof.Machine.execExts d st
  | .rlb d two => Sys2Proof.Machine.execRlb d two st
  | .rl d two => Sys2Proof.Machine.execRl d two st
  | .rrb d two => Sys2Proof.Machine.execRrb d two st
  | .rr d two => Sys2Proof.Machine.execRr d two st
  | .rlcb d two => Sys2Proof.Machine.execRlcb d two st
  | .rlc d two => Sys2Proof.Machine.execRlc d two st
  | .rrcb d two => Sys2Proof.Machine.execRrcb d two st
  | .rrc d two => Sys2Proof.Machine.execRrc d two st
  | .sllb d count => Sys2Proof.Machine.execSllb d count st
  | .slab d count => Sys2Proof.Machine.execSlab d count st
  | .sdlb d s => Sys2Proof.Machine.execSdlb d s st
  | .sdab d s => Sys2Proof.Machine.execSdab d s st
  | .sll d count => Sys2Proof.Machine.execSll d count st
  | .sla d count => Sys2Proof.Machine.execSla d count st
  | .sdl d s => Sys2Proof.Machine.execSdl d s st
  | .sda d s => Sys2Proof.Machine.execSda d s st
  | .slll d count => Sys2Proof.Machine.execSlll d count st
  | .slal d count => Sys2Proof.Machine.execSlal d count st
  | .sdll d s => Sys2Proof.Machine.execSdll d s st
  | .sdal d s => Sys2Proof.Machine.execSdal d s st
  | .trib d s r => Sys2Proof.Machine.execTrib d s r st
  | .trirb d s r => Sys2Proof.Machine.execTrirb d s r st
  | .trdb d s r => Sys2Proof.Machine.execTrdb d s r st
  | .trdrb d s r => Sys2Proof.Machine.execTrdrb d s r st
  | .trtib s t r => Sys2Proof.Machine.execTrtib s t r st
  | .trtirb s t r => Sys2Proof.Machine.execTrtirb s t r st
  | .trtdb s t r => Sys2Proof.Machine.execTrtdb s t r st
  | .trtdrb s t r => Sys2Proof.Machine.execTrtdrb s t r st
  | .cpib d s r c => Sys2Proof.Machine.execCpib d s r c st
  | .cpi d s r c => Sys2Proof.Machine.execCpi d s r c st
  | .cpirb d s r c => Sys2Proof.Machine.execCpirb d s r c st
  | .cpir d s r c => Sys2Proof.Machine.execCpir d s r c st
  | .cpdb d s r c => Sys2Proof.Machine.execCpdb d s r c st
  | .cpd d s r c => Sys2Proof.Machine.execCpd d s r c st
  | .cpdrb d s r c => Sys2Proof.Machine.execCpdrb d s r c st
  | .cpdr d s r c => Sys2Proof.Machine.execCpdr d s r c st
  | .cpsib d s r c => Sys2Proof.Machine.execCpsib d s r c st
  | .cpsi d s r c => Sys2Proof.Machine.execCpsi d s r c st
  | .cpsirb d s r c => Sys2Proof.Machine.execCpsirb d s r c st
  | .cpsir d s r c => Sys2Proof.Machine.execCpsir d s r c st
  | .cpsdb d s r c => Sys2Proof.Machine.execCpsdb d s r c st
  | .cpsd d s r c => Sys2Proof.Machine.execCpsd d s r c st
  | .cpsdrb d s r c => Sys2Proof.Machine.execCpsdrb d s r c st
  | .cpsdr d s r c => Sys2Proof.Machine.execCpsdr d s r c st
  | .ldib d s r => Sys2Proof.Machine.execLdib d s r st
  | .ldi d s r => Sys2Proof.Machine.execLdi d s r st
  | .ldirb d s r => Sys2Proof.Machine.execLdirb d s r st
  | .ldir d s r => Sys2Proof.Machine.execLdir d s r st
  | .lddb d s r => Sys2Proof.Machine.execLddb d s r st
  | .ldd d s r => Sys2Proof.Machine.execLdd d s r st
  | .lddrb d s r => Sys2Proof.Machine.execLddrb d s r st
  | .lddr d s r => Sys2Proof.Machine.execLddr d s r st
  | .rrdb l s => Sys2Proof.Machine.execRrdb l s st
  | .ldk d n => Sys2Proof.Machine.execLdk d n st
  | .rldb l s => Sys2Proof.Machine.execRldb l s st
  | .ini d s r => Sys2Proof.Machine.execIni d s r st
  | .inib d s r => Sys2Proof.Machine.execInib d s r st
  | .inir d s r => Sys2Proof.Machine.execInir d s r st
  | .inirb d s r => Sys2Proof.Machine.execInirb d s r st
  | .ind d s r => Sys2Proof.Machine.execInd d s r st
  | .indb d s r => Sys2Proof.Machine.execIndb d s r st
  | .indr d s r => Sys2Proof.Machine.execIndr d s r st
  | .indrb d s r => Sys2Proof.Machine.execIndrb d s r st
  | .outi d s r => Sys2Proof.Machine.execOuti d s r st
  | .outib d s r => Sys2Proof.Machine.execOutib d s r st
  | .otir d s r => Sys2Proof.Machine.execOtir d s r st
  | .otirb d s r => Sys2Proof.Machine.execOtirb d s r st
  | .outd d s r => Sys2Proof.Machine.execOutd d s r st
  | .outdb d s r => Sys2Proof.Machine.execOutdb d s r st
  | .otdr d s r => Sys2Proof.Machine.execOtdr d s r st
  | .otdrb d s r => Sys2Proof.Machine.execOtdrb d s r st
  | .sini d s r => Sys2Proof.Machine.execSini d s r st
  | .sinib d s r => Sys2Proof.Machine.execSinib d s r st
  | .sinir d s r => Sys2Proof.Machine.execSinir d s r st
  | .sinirb d s r => Sys2Proof.Machine.execSinirb d s r st
  | .sind d s r => Sys2Proof.Machine.execSind d s r st
  | .sindb d s r => Sys2Proof.Machine.execSindb d s r st
  | .sindr d s r => Sys2Proof.Machine.execSindr d s r st
  | .sindrb d s r => Sys2Proof.Machine.execSindrb d s r st
  | .souti d s r => Sys2Proof.Machine.execSouti d s r st
  | .soutib d s r => Sys2Proof.Machine.execSoutib d s r st
  | .sotir d s r => Sys2Proof.Machine.execSotir d s r st
  | .sotirb d s r => Sys2Proof.Machine.execSotirb d s r st
  | .soutd d s r => Sys2Proof.Machine.execSoutd d s r st
  | .soutdb d s r => Sys2Proof.Machine.execSoutdb d s r st
  | .sotdr d s r => Sys2Proof.Machine.execSotdr d s r st
  | .sotdrb d s r => Sys2Proof.Machine.execSotdrb d s r st
  | .inw d src => Sys2Proof.Machine.execInw d src st
  | .inb d src => Sys2Proof.Machine.execInb d src st
  | .sin d port => Sys2Proof.Machine.execSin d port st
  | .sinb d port => Sys2Proof.Machine.execSinb d port st
  | .outw dst s => Sys2Proof.Machine.execOutw dst s st
  | .outb dst s => Sys2Proof.Machine.execOutb dst s st
  | .sout port s => Sys2Proof.Machine.execSout port s st
  | .soutb port s => Sys2Proof.Machine.execSoutb port s st
  | .halt => Sys2Proof.Machine.execHalt st
  | .iret => Sys2Proof.Machine.execIret st
  | .mset => Sys2Proof.Machine.execMset st
  | .mres => Sys2Proof.Machine.execMres st
  | .mbit => Sys2Proof.Machine.execMbit st
  | .mreq d => Sys2Proof.Machine.execMreq d st
  | .di a b => Sys2Proof.Machine.execDi a b st
  | .ei a b => Sys2Proof.Machine.execEi a b st
  | .ldctlRead d k => Sys2Proof.Machine.execLdctlRead d k st
  | .ldctlWrite s k => Sys2Proof.Machine.execLdctlWrite s k st
  | .sc imm => Sys2Proof.Machine.execSc imm st
  | .ext0E imm => Sys2Proof.Machine.execExt0E imm st
  | .ext0F imm => Sys2Proof.Machine.execExt0F imm st
  | .ext4E imm => Sys2Proof.Machine.execExt4E imm st
  | .ext4F imm => Sys2Proof.Machine.execExt4F imm st
  | .ext8E imm => Sys2Proof.Machine.execExt8E imm st
  | .ext8F imm => Sys2Proof.Machine.execExt8F imm st
  | .ldbShort d imm => Sys2Proof.Machine.execLdbShort d imm st
  | .calr disp => Sys2Proof.Machine.execCalr disp st
  | .jr c disp => Sys2Proof.Machine.execJr c disp st
  | .dbjnz d disp => Sys2Proof.Machine.execDbjnz d disp st
  | .djnz d disp => Sys2Proof.Machine.execDjnz d disp st
  | .undefined w => Sys2Proof.Machine.execUndefined w st

end Sys2Proof.Machine
end

