-- ==== Sys2Proof/Machine/Boundary.lean ====
section
/-!
DEFINITION. One step of the execution loop (70_reset_and_hazards.md rules R710, R712): service, fetch, decode,
execute; and where the bytes of an instruction are placed for the next step to run it.
-/

namespace Sys2Proof.Machine

open Sys2Proof

/-- The `k`-th word of the instruction at `pc` (R130): what the `k`-th fetch reads. -/
def State.codeWord (s : State) (k : Nat) : Word := s.readWord .program (s.addrAdd s.pc (BitVec.ofNat 16 (2 * k)))

/-- The instruction at `pc`, in the mode in force (R133, R135; log 21). -/
def State.decodeAt (s : State) : Instr :=
  decode s.segmented (s.codeWord 0) (s.codeWord 1) (s.codeWord 2) (s.codeWord 3)

/-- R54: the refresh counter after an opcode fetch. -/
def refreshed (r : Word) : Word := if r.getLsbD 15 then r.extractLsb' 8 8 ++ (r.extractLsb' 0 8 + 1#8) else r

/-- R710 step 3: `ppc` is latched, the opcode word goes into slot 0, and REFRESH counts. -/
def State.fetchOpcode (s : State) : State :=
  let t := State.fetch { s with ppc := s.pc, opValid := 0 }
  { t with refresh := refreshed t.refresh }

/-- R710 step 6: the operand slots are no longer valid; their words remain. -/
def State.endInstruction (s : State) : State := { s with opValid := 0 }

/-- An outcome whose next state has ended its instruction. -/
def endOutcome : Out → Out
  | .next t => .next t.endInstruction
  | .fault f => .fault f
  | .refused r => .refused r

/-- The state in which the instruction `i` at `pc` executes: the opcode fetched, the cost charged (R710 steps 3 and
5). -/
def State.begin (s : State) (i : Instr) : State := s.fetchOpcode.charge (Config.cycles i.entry)

/-- R710 steps 3 to 6: the instruction at `pc` is fetched and executed. -/
def State.runInstruction (s : State) : Out := endOutcome (exec s.decodeAt (s.begin s.decodeAt))

/-- R712: a halted step spends what is left of the budget. -/
def State.haltedStep (s : State) : State :=
  { s with totalCycles := s.totalCycles + s.icount.toNat, icount := 0 }

/-- R710 `step()`. -/
def State.stepOnce (s : State) : Out :=
  if s.service.halt then .next s.service.haltedStep else s.service.runInstruction

/-! ### Placing an instruction -/

/-- A word put in memory by the host, as a word access lays it out (R93, R94). -/
def State.pokeWord (s : State) (a : Addr) (w : Word) : State :=
  (s.poke (wordAlign a) (w.extractLsb' 8 8)).poke (wordAlign a ||| 1#23) (w.extractLsb' 0 8)

/-- The words `ws` put at rising addresses from `a`. -/
def State.placeWords : State → Addr → List Word → State
  | s, _, [] => s
  | s, a, w :: ws => State.placeWords (s.pokeWord a w) (s.addrAdd a 2) ws

/-- Where `placeCode` puts an instruction while RESET is pending. -/
def codeBase : Addr := 0x0100

/-- The reset vector (R704) for system mode, non-segmented, with the program at `codeBase`. -/
def State.placeResetVector (s : State) : State :=
  match s.cfg.variant with
  | .z8001 => s.placeWords 2 [0x4000, 0x8000, offset codeBase]
  | .z8002 => s.placeWords 2 [0x4000, offset codeBase]

/-- The bus adaptor lets the core read the program as it is stored. -/
def State.plainProgram (s : State) : State :=
  { s with guards := s.guards.filter fun g => g.access != .read .program }

/-- The words `ws` stored where the next step fetches its instruction. While RESET is pending that is where the reset
vector points, which is written too; otherwise it is at `pc` after the service of what is pending, with the halt latch
clear (log 15). -/
def State.placeCode (s : State) (ws : List Word) : State :=
  let t := s.plainProgram
  if t.irqReq.reset then t.placeResetVector.placeWords codeBase ws
  else { t.placeWords t.service.pc ws with halt := false }

end Sys2Proof.Machine
end

