-- ==== Sys2Proof/Machine/Step.lean ====
section
/-! DEFINITION. The step (R710), and the state that runs a given instruction next. -/

namespace Sys2Proof.Machine

open Sys2Proof

/-- R710: one `step()`: the service of at most one request, then one instruction, or a halted step. -/
def step (s : State) : Host.Outcome State Fault Refusal := s.stepOnce

/-- `s` with the instruction whose bits are `w`, numbered as in spec/opcode_table.json, placed where the next step
fetches (log 15). -/
def State.withFetchWord (s : State) (nbits w : Nat) : State := s.placeCode (tableWords nbits w)

end Sys2Proof.Machine
end

