-- ==== Sys2Proof/Machine/Run.lean ====
section
/-!
DEFINITION. What the host does between steps: `reset()`, the input lines, the register accessors and `run`
(10_state.md rules R33, R59, R60, R64; 60_exceptions.md rules R605 to R611; 70_reset_and_hazards.md rules R700, R720).
-/

namespace Sys2Proof.Machine

open Sys2Proof

/-- R700 `reset()`, with the values that R65 gives. DESIGN CHOICE (log 30), unsafe: R0 to R15, `pc`, `ppc`, FCW, NSPSEG,
NSPOFF and `op[0..3]`, which R65 leaves unwritten or unspecified, stay as they were; so does what R65 does not list. -/
def State.hostReset (s : State) : State :=
  { s with
    irqReq := noRequests.raise .reset
    psapSeg := 0
    psapOff := 0
    refresh := 0
    nmiPrev := s.nmiState
    mi := false
    halt := false
    opValid := 0
    totalCycles := 0 }

/-- R605: the host writes `nmi_state`; a rising edge latches NMI at once, and `nmi_prev` keeps the old value. -/
def State.writeNmi (s : State) (v : Bool) : State :=
  let t := { s with nmiPrev := s.nmiState, nmiState := v }
  if v && !s.nmiState then t.raise .nmi else t

/-- R606: the host writes `irq_state[0]`, the NVI line. -/
def State.writeNvi (s : State) (v : Bool) : State := { s with nviLine := v }

/-- R606: the host writes `irq_state[1]`, the VI line. -/
def State.writeVi (s : State) (v : Bool) : State := { s with viLine := v }

/-- R60, R611: the host writes `irq_vec`. -/
def State.writeIrqVec (s : State) (v : Word) : State := { s with irqVec := v }

/-- R608: the host requests SEGTRAP between steps; during a bus access its adaptor does (`State.guards`). -/
def State.requestSegtrap (s : State) : State := s.raise .segtrap

/-- R33 `get_reg_byte(k)`: the pair order whatever `BYTE_REG_MAP` is. -/
def State.hostByteReg (s : State) (k : Reg) : Byte := s.byteRegAt .pair k

/-- R33: the host's write of a byte register, in the pair order. -/
def State.hostSetByteReg (s : State) (k : Reg) (v : Byte) : State := s.setByteRegAt .pair k v

/-- R35 `get_reg_long(n)`; an odd index is outside its domain. -/
def State.hostLongReg (s : State) (n : Reg) : Option Long := if evenReg n then some (s.longReg n) else none

/-- R30, R35: the host's write of a long register, the counterpart of `get_reg_long(n)`; an odd index is outside its
domain (log 27). -/
def State.hostSetLongReg (s : State) (n : Reg) (v : Long) : Option State :=
  if evenReg n then some (s.setLongReg n v) else none

/-- R104, R608: the host gives the bus adaptor another set of accesses to turn into a segmentation trap (log 28). -/
def State.setGuards (s : State) (g : List Guard) : State := { s with guards := g }

/-- R720: the condition under which `run` takes another step. -/
def State.goesOn (s : State) : Bool := !(decide (s.icount ≤ 0) || (s.halt && s.topCause.isNone))

/-- R720: the loop of `run`, with at most `fuel` steps; `none` when they do not suffice. -/
def State.runLoop : Nat → State → Option Out
  | 0, s => if s.goesOn then none else some (.next s)
  | fuel + 1, s =>
    if s.goesOn then
      match step s with
      | .next t => State.runLoop fuel t
      | .fault f => some (.fault f)
      | .refused r => some (.refused r)
    else some (.next s)

/-- R720 `run(max_cycles)`. -/
def State.run (fuel : Nat) (maxCycles : Int) (s : State) : Option Out :=
  State.runLoop fuel { s with icount := maxCycles }

end Sys2Proof.Machine
end

