-- ==== Sys2Proof/Safety.lean ====
section
/-!
DEFINITION. What counts as a safe run, and the words in which statements about the machine are written: the invariant of
a state between steps, what an instruction leaves unchanged, and the results and flags of rules R250, R300 and R364
said over the integers rather than over the machine's own functions.
-/

namespace Sys2Proof.Machine

open Sys2Proof

/-! ### The invariant -/

/-- What holds of every state between two steps: memory in its canonical form and within the address space (R90), `pc`
and `ppc` as R39 and R40 allow (even, and no segment on the Z8002), the bits of FCW that R43 reserves reading zero, and
no operand slot valid (R63). -/
structure State.Inv (s : State) : Prop where
  mem     : s.mem.wf (memorySize s.cfg.variant) = true
  pc      : pcValue s.cfg.variant s.pc = s.pc
  ppc     : pcValue s.cfg.variant s.ppc = s.ppc
  fcw     : s.fcw &&& fcwMask s.cfg.variant = s.fcw
  opValid : s.opValid = 0

/-- What the host may do between steps (10_state.md R30, R59, R60; 20 R104; 60_exceptions.md R605 to R611; 70 R700,
R720), a program loaded into memory among it (R708). -/
inductive HostMove (s : State) : State → Prop where
  | reset : HostMove s s.hostReset
  | nmi (v : Bool) : HostMove s (s.writeNmi v)
  | nvi (v : Bool) : HostMove s (s.writeNvi v)
  | vi (v : Bool) : HostMove s (s.writeVi v)
  | irqVec (v : Word) : HostMove s (s.writeIrqVec v)
  | segtrap : HostMove s s.requestSegtrap
  | setReg (n : Reg) (v : Word) : HostMove s (s.setReg n v)
  | setByteReg (k : Reg) (v : Byte) : HostMove s (s.hostSetByteReg k v)
  | setLongReg (n : Reg) (v : Long) (t : State) (h : s.hostSetLongReg n v = some t) : HostMove s t
  | load (a : Addr) (v : Byte) : HostMove s (s.poke a v)
  | adaptor (g : List Guard) : HostMove s (s.setGuards g)
  | budget (k : Int) : HostMove s { s with icount := k }

/-- The states a machine with parameters `p` can be in: it starts as R65 says, and steps and moves of the host follow in
any order. -/
inductive Reachable (p : Params) : State → Prop where
  | start : Reachable p { State.reset with cfg := p }
  | step {s t : State} : Reachable p s → Sys2Proof.Machine.step s = .next t → Reachable p t
  | host {s t : State} : Reachable p s → HostMove s t → Reachable p t

/-! ### Frames -/

/-- Every field that is not a general register, memory, FCW, `pc` or an operand slot. -/
structure Rest where
  cfg         : Params
  ppc         : Addr
  psapSeg     : Word
  psapOff     : Word
  nspSeg      : Word
  nspOff      : Word
  refresh     : Word
  irqReq      : Requests
  nmiState    : Bool
  nmiPrev     : Bool
  nviLine     : Bool
  viLine      : Bool
  irqVec      : Word
  mi          : Bool
  halt        : Bool
  totalCycles : Nat
  icount      : Int
  guards      : List Guard
  ioLog       : List IoEvent
  draws       : Nat
  deriving DecidableEq, Repr

/-- Those fields of a state. -/
def State.rest (s : State) : Rest where
  cfg := s.cfg
  ppc := s.ppc
  psapSeg := s.psapSeg
  psapOff := s.psapOff
  nspSeg := s.nspSeg
  nspOff := s.nspOff
  refresh := s.refresh
  irqReq := s.irqReq
  nmiState := s.nmiState
  nmiPrev := s.nmiPrev
  nviLine := s.nviLine
  viLine := s.viLine
  irqVec := s.irqVec
  mi := s.mi
  halt := s.halt
  totalCycles := s.totalCycles
  icount := s.icount
  guards := s.guards
  ioLog := s.ioLog
  draws := s.draws

/-- They are the same but for one more draw taken (log 4). -/
def State.restDrawn (s : State) : Rest := { s.rest with draws := s.draws + 1 }

/-- They are the same but for one request latched (R15). -/
def State.restRaised (s : State) (c : Cause) : Rest := { s.rest with irqReq := s.irqReq.raise c }

/-- The other fields of `t` are `r`, but that the bus adaptor may have requested SEGTRAP during the accesses made since
`s` (R608): a SEGTRAP of `r` stays, and where the adaptor of `s` requests none they are exactly `r`. -/
def RestIs (s t : State) (r : Rest) : Prop :=
  t.rest = { r with irqReq := { r.irqReq with segtrap := t.irqReq.segtrap } } ∧
  (r.irqReq.segtrap = true → t.irqReq.segtrap = true) ∧
  (s.guards = [] → t.rest = r)

/-- What `t` keeps of `s`: every register but those listed, every byte of memory but those listed, every bit of FCW but
those of `flags`; its other fields are `r`. -/
structure Frame (s t : State) (regs : List Reg) (stored : List Nat) (flags : Word) (r : Rest) : Prop where
  regs : ∀ n, n ∉ regs → t.reg n = s.reg n
  mem  : ∀ a, a ∉ stored → t.mem.read a = s.mem.read a
  fcw  : t.fcw &&& ~~~flags = s.fcw &&& ~~~flags
  rest : RestIs s t r

/-- The state as a bus with no adaptor shows it: what memory holds is what a read answers (R104). -/
def State.bare (s : State) : State := { s with guards := [] }

/-- The word register a byte register is part of. -/
def State.byteHome (s : State) (k : Reg) : Reg := (byteLoc s.cfg.byteRegMap k).1

/-- Only the word at the place `p`, and the bits `flags` of FCW, differ. -/
def WordFrame (s t : State) (p : Place) (flags : Word) (r : Rest) : Prop :=
  match p with
  | .reg n => Frame s t [n] [] flags r
  | .addr a => Frame s t [] (s.wordCells a) flags r

/-- Only the byte at the place `p`, and the bits `flags` of FCW, differ: the other half of its word register is kept. -/
def ByteFrame (s t : State) (p : Place) (flags : Word) (r : Rest) : Prop :=
  match p with
  | .reg k => Frame s t [s.byteHome k] [] flags r ∧ ∀ j, j ≠ k → t.byteReg j = s.byteReg j
  | .addr a => Frame s t [] (s.byteCells a) flags r

/-- Only the long at the place `p`, and the bits `flags` of FCW, differ. -/
def LongFrame (s t : State) (p : Place) (flags : Word) (r : Rest) : Prop :=
  match p with
  | .reg n => Frame s t [n, n + 1] [] flags r
  | .addr a => Frame s t [] (s.longCells a) flags r

/-- `pc` once `k` more words are fetched (R131, R41). -/
def State.pcAfter (s : State) (k : Nat) : Addr := if k = 0 then s.pc else s.addrAdd s.pc (BitVec.ofNat 16 (2 * k))

/-- What the opcode fetch put in slot 0 (R63), which is the tag of an internal trap (R624), is kept; `k` more slots are
filled. -/
def SlotsFilled (s t : State) (k : Nat) : Prop := t.opValid = s.opValid + k ∧ (0 < s.opValid → t.op[0] = s.op[0])

/-! ### Flags over the integers -/

/-- The flags C, Z, S and PV as bits of FCW (R43). -/
def flagsCZSP : Word := 0x00F0

/-- Z, S and PV. -/
def flagsZSP : Word := 0x0070

/-- C, Z and S. -/
def flagsCZS : Word := 0x00E0

/-- Z and S. -/
def flagsZS : Word := 0x0060

/-- Z and PV. -/
def flagsZP : Word := 0x0050

/-- All six flags. -/
def flagsAll : Word := 0x00FC

/-- A signed value that `n` bits can hold. -/
def Fits (n : Nat) (v : Int) : Prop := -(2 ^ (n - 1) : Int) ≤ v ∧ v < (2 ^ (n - 1) : Int)

/-- Z and S describe the result `r` (R250, R300). -/
def ZeroSign {n : Nat} (r : BitVec n) (f : Word) : Prop := flagZ f = decide (r = 0#n) ∧ flagS f = r.msb

/-- R250 for `a + b + ci`: C is the carry out, PV says that the signed sum does not fit. -/
def AddFlags {n : Nat} (a b : BitVec n) (ci : Bool) (f : Word) : Prop :=
  ZeroSign (a + b + BitVec.ofNat n ci.toNat) f ∧
  (flagC f = true ↔ 2 ^ n ≤ a.toNat + b.toNat + ci.toNat) ∧
  (flagPV f = true ↔ ¬ Fits n (a.toInt + b.toInt + ci.toNat))

/-- R250 for `a - b - ci`: C is the borrow, PV says that the signed difference does not fit. -/
def SubFlags {n : Nat} (a b : BitVec n) (ci : Bool) (f : Word) : Prop :=
  ZeroSign (a - b - BitVec.ofNat n ci.toNat) f ∧
  (flagC f = true ↔ a.toNat < b.toNat + ci.toNat) ∧
  (flagPV f = true ↔ ¬ Fits n (a.toInt - b.toInt - ci.toNat))

/-- R252, R255: H and DA after a byte addition. -/
def HalfAdd (a b : Byte) (ci : Bool) (f : Word) : Prop :=
  (flagH f = true ↔ 16 ≤ a.toNat % 16 + b.toNat % 16 + ci.toNat) ∧ flagDA f = false

/-- R257, R260: H and DA after a byte subtraction. -/
def HalfSub (a b : Byte) (ci : Bool) (f : Word) : Prop :=
  (flagH f = true ↔ a.toNat % 16 < b.toNat % 16 + ci.toNat) ∧ flagDA f = true

/-- R250: an even number of the bits 7 to 0 are 1. -/
def evenOnes {n : Nat} (r : BitVec n) : Bool := ((List.range 8).filter (r.getLsbD ·)).length % 2 == 0

/-- R300 for bytes: Z, S and the parity of the byte. -/
def LogicByte (r : Byte) (f : Word) : Prop := ZeroSign r f ∧ flagPV f = evenOnes r

/-- R300 for words and longs: PV is the parity of the low byte, or keeps its value, by `WORD_LOGIC_PV`. -/
def LogicWide {n : Nat} (s : State) (r : BitVec n) (f : Word) : Prop :=
  ZeroSign r f ∧ flagPV f = (if s.cfg.wordLogicPv = .parityLowByte then evenOnes r else flagPV s.fcw)

/-- R229: a byte load describes the byte, or leaves FCW alone, by `BYTE_LOAD_FLAGS`. -/
def LoadFlags (s : State) (b : Byte) (f : Word) : Prop :=
  if s.cfg.byteLoadFlags = .zsp then LogicByte b f else f = s.fcw

/-- R364: PV of a left shift or a rotate whose operand has the sign `s0` and whose single-bit steps have the signs
`path`: 1 if the last differs from `s0`, 0 if none does, and open when the sign changed and changed back. -/
def SignFlag (s0 : Bool) (path : List Bool) (f : Word) : Prop :=
  (path.getLast? = some (!s0) → flagPV f = true) ∧ ((∀ b ∈ path, b = s0) → flagPV f = false)

/-- R341 to R348: one single-bit rotate of the carry and the operand. `carry` says whether the carry takes part (RLC,
RRC) or the bit that leaves at one end enters at the other (RL, RR). -/
def rotateOnce {n : Nat} (left carry : Bool) (p : Bool × BitVec n) : Bool × BitVec n :=
  let out := if left then p.2.msb else p.2.getLsbD 0
  let bitIn := if carry then p.1 else out
  (out, if left then p.2 <<< 1 ||| (BitVec.ofBool bitIn).setWidth n
        else p.2 >>> 1 ||| (BitVec.ofBool bitIn).setWidth n <<< (n - 1))

/-- `k` of them. -/
def rotateTimes {n : Nat} (left carry : Bool) (p : Bool × BitVec n) : Nat → Bool × BitVec n
  | 0 => p
  | k + 1 => rotateOnce left carry (rotateTimes left carry p k)

/-- R341 to R348, R364: `r` with the flags `f` is `x` rotated by `k` single-bit steps from the carry `c`. -/
def RotateResult {n : Nat} (left carry : Bool) (c : Bool) (x : BitVec n) (k : Nat) (r : BitVec n) (f : Word) : Prop :=
  (flagC f, r) = rotateTimes left carry (c, x) k ∧ ZeroSign r f ∧
  SignFlag x.msb ((List.range k).map fun j => (rotateTimes left carry (c, x) (j + 1)).2.msb) f

/-- R363 to R365: what the spec fixes of the shift of `x` by the signed count `k`, with result `r` and flags `f`. A
count beyond the width leaves both open; PV of a logical shift is open, and so is C at count 0. -/
def ShiftResult {n : Nat} (arith : Bool) (x : BitVec n) (k : Int) (r : BitVec n) (f : Word) : Prop :=
  (k = 0 → r = x ∧ ZeroSign r f ∧ (arith = true → flagPV f = false)) ∧
  (0 < k ∧ k ≤ n → r.toNat = x.toNat * 2 ^ k.toNat % 2 ^ n ∧ ZeroSign r f ∧
    flagC f = x.getLsbD (n - k.toNat) ∧
    (arith = true → SignFlag x.msb ((List.range k.toNat).map fun j => (x <<< (j + 1)).msb) f)) ∧
  (k < 0 ∧ -k ≤ n → ZeroSign r f ∧ flagC f = x.getLsbD ((-k).toNat - 1) ∧
    (arith = true → r.toInt = x.toInt / 2 ^ (-k).toNat ∧ flagPV f = false) ∧
    (arith = false → r.toNat = x.toNat / 2 ^ (-k).toNat))

/-! ### Effects shared by several statements -/

/-- R56, R57: what a whole-FCW write of `v` does to FCW, the registers and the NSP shadow: when S_N changes, R15 changes
places with NSPOFF, and R14 with NSPSEG where the pair is exchanged. -/
def Switched (s t : State) (v : Word) : Prop :=
  t.fcw = v &&& fcwMask s.cfg.variant ∧
  (fcwSystem v = s.system → (∀ n, t.reg n = s.reg n) ∧ t.nspOff = s.nspOff ∧ t.nspSeg = s.nspSeg) ∧
  (fcwSystem v ≠ s.system →
    t.reg 15 = s.nspOff ∧ t.nspOff = s.reg 15 ∧ (∀ n, n ≠ 14 → n ≠ 15 → t.reg n = s.reg n) ∧
    (if s.cfg.variant = .z8001 ∨ s.cfg.z8002SwapR14 = true then t.reg 14 = s.nspSeg ∧ t.nspSeg = s.reg 14
     else t.reg 14 = s.reg 14 ∧ t.nspSeg = s.nspSeg))

/-- The other fields of `t` after such a write: those of `s`, with the NSP shadow that `Switched` gives. -/
def State.restSwitched (s t : State) : Rest := { s.rest with nspSeg := t.nspSeg, nspOff := t.nspOff }

/-- R400: the registers of a block instruction after one iteration: the pointers `ps` stepped by `k` in order, then the
counter `r` counted down, PV telling whether it is 0. -/
def Counted (s t : State) (ps : List Reg) (k : Word) (r : Reg) : Prop :=
  (∀ n, t.reg n =
    if n = r then (ps.foldl (fun u p => u.stepPointer p k) s).reg r - 1
    else (ps.foldl (fun u p => u.stepPointer p k) s).reg n) ∧
  flagPV t.fcw = decide (t.reg r = 0)

/-- R400: after a two-word block instruction `pc` is at the next instruction, or at the same one again. -/
def RunsAgain (s t : State) (again : Bool) : Prop :=
  t.pc = if again then pcValue s.cfg.variant (s.addrAdd s.pc (-2)) else s.addrAdd s.pc 2

/-- Only the bytes `stored` and the bits `flags` of FCW differ, registers apart; the other fields are `r`. -/
def StoreFrame (s t : State) (stored : List Nat) (flags : Word) (r : Rest) : Prop :=
  (∀ a, a ∉ stored → t.mem.read a = s.mem.read a) ∧ t.fcw &&& ~~~flags = s.fcw &&& ~~~flags ∧ RestIs s t r

/-- The bytes at `pc`, as many as the longest instruction has (R130). -/
def State.codeBytes (s : State) : List Byte :=
  (List.range 8).map fun k => s.readByte .program (s.addrAdd s.pc (BitVec.ofNat 16 k))

/-- R322: the bit number a dynamic bit instruction takes from a register; with `BITDYN_BITS = 5` it may name no bit. -/
def dynamicBit (p : BitdynBits) (n : Nat) (v : Word) : Nat :=
  match p with
  | .five => v.toNat % 32
  | .zilog => v.toNat % n

/-- A byte that holds two decimal digits. -/
def IsBcd (b : Byte) : Prop := b.toNat % 16 ≤ 9 ∧ b.toNat / 16 ≤ 9

/-- The number it holds. -/
def bcdValue (b : Byte) : Nat := b.toNat / 16 * 10 + b.toNat % 16

/-! ### Accesses (R91, R103) -/

/-- The accesses `k` of the bytes or ports `ns`. -/
def accesses (k : Access) (ns : List Nat) : List (Access × Nat) := ns.map fun n => (k, n)

/-- The accesses of `k` operand fetches (R131). -/
def State.fetches (s : State) (k : Nat) : List (Access × Nat) :=
  accesses (.read .program) ((List.range k).flatMap fun j => s.wordCells (s.addrAdd s.pc (BitVec.ofNat 16 (2 * j))))

/-- The accesses `k` of a data operand whose bytes at an address are `cells`; none for a register. -/
def Place.accesses (k : Access) (cells : Addr → List Nat) : Place → List (Access × Nat)
  | .reg _ => []
  | .addr a => Machine.accesses k (cells a)

/-- R608: the bus adaptor of `s` has requested SEGTRAP in `t` if it does so during one of the accesses `l`, and not
otherwise. -/
def SegtrapIs (s t : State) (l : List (Access × Nat)) : Prop :=
  t.irqReq.segtrap = (s.irqReq.segtrap || l.any fun c => s.guarded c.1 c.2)

end Sys2Proof.Machine

namespace Sys2Proof

open Sys2Proof.Machine

/-- The read of a source operand. -/
def Source.reads {α : Type} (cells : Addr → List Nat) (s : State) : Source α → List (Access × Nat)
  | .reg _ => []
  | .imm _ => []
  | .mem m => accesses (.read .data) (cells (m.ea s))

/-- The accesses of an instruction to memory and to I/O, apart from the fetch of its words, in the order in which its
rule makes them (R103). The program role is the fetch's; the stack role is that of PUSH, POP, CALL, CALR, RET and
IRET; the data role is every other's (R91). DEDUCED (log 31), unsafe for a claim about SEGTRAP: CLR, CLRB and a byte
store read nothing. -/
def Instr.operandAccesses (s : State) : Instr → List (Access × Nat)
  | .addb _ src | .subb _ src | .orb _ src | .andb _ src | .xorb _ src | .cpb _ src => src.reads s.byteCells s
  | .add _ src | .sub _ src | .or _ src | .and _ src | .xor _ src | .cp _ src | .mult _ src | .div _ src =>
    src.reads s.wordCells s
  | .cpl _ src | .subl _ src | .addl _ src | .multl _ src | .divl _ src => src.reads s.longCells s
  | .ldbMem _ src => accesses (.read .data) (s.byteCells (src.ea s))
  | .ldMem _ src => accesses (.read .data) (s.wordCells (src.ea s))
  | .ldlMem _ src => accesses (.read .data) (s.longCells (src.ea s))
  | .ldbTo dst _ => accesses (.write .data) (s.byteCells (dst.ea s))
  | .ldTo dst _ => accesses (.write .data) (s.wordCells (dst.ea s))
  | .ldlTo dst _ => accesses (.write .data) (s.longCells (dst.ea s))
  | .ldbImm dst _ => accesses (.write .data) (s.byteCells (dst.ea s))
  | .ldImm dst _ => accesses (.write .data) (s.wordCells (dst.ea s))
  | .ldrbLoad _ disp => accesses (.read .data) (s.byteCells (s.addrAdd s.pc (2 + disp)))
  | .ldrLoad _ disp => accesses (.read .data) (s.wordCells (s.addrAdd s.pc (2 + disp)))
  | .ldrlLoad _ disp => accesses (.read .data) (s.longCells (s.addrAdd s.pc (2 + disp)))
  | .ldrbStore disp _ => accesses (.write .data) (s.byteCells (s.addrAdd s.pc (2 + disp)))
  | .ldrStore disp _ => accesses (.write .data) (s.wordCells (s.addrAdd s.pc (2 + disp)))
  | .ldrlStore disp _ => accesses (.write .data) (s.longCells (s.addrAdd s.pc (2 + disp)))
  | .comb dst | .negb dst | .tsetb dst | .resb dst _ | .setb dst _ | .incb dst _ | .decb dst _ | .exb _ dst =>
    (dst.place s).accesses (.read .data) s.byteCells ++ (dst.place s).accesses (.write .data) s.byteCells
  | .com dst | .neg dst | .tset dst | .res dst _ | .set dst _ | .inc dst _ | .dec dst _ | .ex _ dst =>
    (dst.place s).accesses (.read .data) s.wordCells ++ (dst.place s).accesses (.write .data) s.wordCells
  | .testb dst | .bitb dst _ => (dst.place s).accesses (.read .data) s.byteCells
  | .test dst | .bit dst _ => (dst.place s).accesses (.read .data) s.wordCells
  | .testl dst => (dst.place s).accesses (.read .data) s.longCells
  | .cpbImm dst _ => accesses (.read .data) (s.byteCells (dst.ea s))
  | .cpImm dst _ => accesses (.read .data) (s.wordCells (dst.ea s))
  | .clrb dst => (dst.place s).accesses (.write .data) s.byteCells
  | .clr dst => (dst.place s).accesses (.write .data) s.wordCells
  | .ldm _ src n => accesses (.read .data) ((List.range (n.toNat + 1)).flatMap fun j =>
      s.wordCells (s.addrAdd (wordAlign (src.ea s)) (BitVec.ofNat 16 (2 * j))))
  | .ldmTo dst _ n => accesses (.write .data) ((List.range (n.toNat + 1)).flatMap fun j =>
      s.wordCells (s.addrAdd (wordAlign (dst.ea s)) (BitVec.ofNat 16 (2 * j))))
  | .push p src =>
    src.reads s.wordCells s ++ accesses (.write .stack) (s.wordCells ((s.stepPointer p (-2)).pointer p))
  | .pushl p src => (src.place s).accesses (.read .data) s.longCells ++
      accesses (.write .stack) (s.longCells ((s.stepPointer p (-4)).pointer p))
  | .pop dst p =>
    accesses (.read .stack) (s.wordCells (s.pointer p)) ++ (dst.place s).accesses (.write .data) s.wordCells
  | .popl dst p =>
    accesses (.read .stack) (s.longCells (s.pointer p)) ++ (dst.place s).accesses (.write .data) s.longCells
  | .call _ | .calr _ => accesses (.write .stack) (if s.segmented
      then s.longCells ((s.stepPointer 14 (-4)).pointer 14) else s.wordCells ((s.stepPointer 15 (-2)).pointer 15))
  | .ret c => if cc c s.fcw then accesses (.read .stack) (if s.segmented
      then s.longCells (s.pointer 14) else s.wordCells (s.pointer 15)) else []
  | .ldi d r _ | .ldir d r _ | .ldd d r _ | .lddr d r _ =>
    accesses (.read .data) (s.wordCells (s.pointer r)) ++ accesses (.write .data) (s.wordCells (s.pointer d))
  | .ldib d r _ | .ldirb d r _ | .lddb d r _ | .lddrb d r _ =>
    accesses (.read .data) (s.byteCells (s.pointer r)) ++ accesses (.write .data) (s.byteCells (s.pointer d))
  | .cpi _ r _ _ | .cpir _ r _ _ | .cpd _ r _ _ | .cpdr _ r _ _ => accesses (.read .data) (s.wordCells (s.pointer r))
  | .cpib _ r _ _ | .cpirb _ r _ _ | .cpdb _ r _ _ | .cpdrb _ r _ _ =>
    accesses (.read .data) (s.byteCells (s.pointer r))
  | .cpsi d r _ _ | .cpsir d r _ _ | .cpsd d r _ _ | .cpsdr d r _ _ =>
    accesses (.read .data) (s.wordCells (s.pointer d) ++ s.wordCells (s.pointer r))
  | .cpsib d r _ _ | .cpsirb d r _ _ | .cpsdb d r _ _ | .cpsdrb d r _ _ =>
    accesses (.read .data) (s.byteCells (s.pointer d) ++ s.byteCells (s.pointer r))
  | .trib d r _ | .trirb d r _ | .trdb d r _ | .trdrb d r _ =>
    accesses (.read .data) (s.byteCells (s.pointer d) ++ s.byteCells (s.addrAdd (s.pointer r)
      (BitVec.ofNat 16 (s.readByte .data (s.pointer d)).toNat))) ++
      accesses (.write .data) (s.byteCells (s.pointer d))
  | .trtib p q _ | .trtirb p q _ | .trtdb p q _ | .trtdrb p q _ =>
    accesses (.read .data) (s.byteCells (s.pointer p) ++ s.byteCells (s.addrAdd (s.pointer q)
      (BitVec.ofNat 16 (s.readByte .data (s.pointer p)).toNat)))
  | .inw _ p | .inb _ p => accesses (.input .normal) [(p.port s).toNat]
  | .sin _ p | .sinb _ p => accesses (.input .special) [p.toNat]
  | .outw p _ | .outb p _ => accesses (.output .normal) [(p.port s).toNat]
  | .sout p _ | .soutb p _ => accesses (.output .special) [p.toNat]
  | .ini d r _ | .inir d r _ | .ind d r _ | .indr d r _ =>
    accesses (.input .normal) [(s.reg r).toNat] ++ accesses (.write .data) (s.wordCells (s.pointer d))
  | .inib d r _ | .inirb d r _ | .indb d r _ | .indrb d r _ =>
    accesses (.input .normal) [(s.reg r).toNat] ++ accesses (.write .data) (s.byteCells (s.pointer d))
  | .sini d r _ | .sinir d r _ | .sind d r _ | .sindr d r _ =>
    accesses (.input .special) [(s.reg r).toNat] ++ accesses (.write .data) (s.wordCells (s.pointer d))
  | .sinib d r _ | .sinirb d r _ | .sindb d r _ | .sindrb d r _ =>
    accesses (.input .special) [(s.reg r).toNat] ++ accesses (.write .data) (s.byteCells (s.pointer d))
  | .outi d r _ | .otir d r _ | .outd d r _ | .otdr d r _ =>
    accesses (.read .data) (s.wordCells (s.pointer r)) ++ accesses (.output .normal) [(s.reg d).toNat]
  | .outib d r _ | .otirb d r _ | .outdb d r _ | .otdrb d r _ =>
    accesses (.read .data) (s.byteCells (s.pointer r)) ++ accesses (.output .normal) [(s.reg d).toNat]
  | .souti d r _ | .sotir d r _ | .soutd d r _ | .sotdr d r _ =>
    accesses (.read .data) (s.wordCells (s.pointer r)) ++ accesses (.output .special) [(s.reg d).toNat]
  | .soutib d r _ | .sotirb d r _ | .soutdb d r _ | .sotdrb d r _ =>
    accesses (.read .data) (s.byteCells (s.pointer r)) ++ accesses (.output .special) [(s.reg d).toNat]
  | .ldps m => accesses (.read .data) (if s.segmented
      then s.wordCells (s.addrAdd (m.ea s) 2) ++ s.wordCells (s.addrAdd (m.ea s) 4) ++
        s.wordCells (s.addrAdd (m.ea s) 6)
      else s.wordCells (m.ea s) ++ s.wordCells (s.addrAdd (m.ea s) 2))
  | .iret => accesses (.read .stack) (s.wordCells (s.pointer s.spReg) ++
      s.wordCells ((s.stepPointer s.spReg 2).pointer s.spReg) ++
      (if s.cfg.variant = .z8001 then s.longCells ((s.stepPointer s.spReg 4).pointer s.spReg)
       else s.wordCells ((s.stepPointer s.spReg 4).pointer s.spReg)))
  | .ldlIM _ _ | .ldlR _ _ | .ldbIM _ _ | .ldbR _ _ | .ldIM _ _ | .ldR _ _ | .adcb _ _ | .adc _ _ | .sbcb _ _
  | .sbc _ _ | .ldctlbRead _ | .ldctlbWrite _ | .setflg _ | .resflg _ | .comflg _ | .nop | .jp _ _ | .resbDyn _ _
  | .resDyn _ _ | .setbDyn _ _ | .setDyn _ _ | .bitbDyn _ _ | .bitDyn _ _ | .tccb _ _ | .tcc _ _ | .ldar _ _
  | .lda _ _ | .dab _ | .extsb _ | .extsl _ | .exts _ | .rlb _ _ | .rl _ _ | .rrb _ _ | .rr _ _ | .rlcb _ _
  | .rlc _ _ | .rrcb _ _ | .rrc _ _ | .sllb _ _ | .slab _ _ | .sdlb _ _ | .sdab _ _ | .sll _ _ | .sla _ _ | .sdl _ _
  | .sda _ _ | .slll _ _ | .slal _ _ | .sdll _ _ | .sdal _ _ | .rrdb _ _ | .ldk _ _ | .rldb _ _ | .halt | .mset
  | .mres | .mbit | .mreq _ | .di _ _ | .ei _ _ | .ldctlRead _ _ | .ldctlWrite _ _ | .sc _ | .ext0E _ | .ext0F _
  | .ext4E _ | .ext4F _ | .ext8E _ | .ext8F _ | .ldbShort _ _ | .jr _ _ | .dbjnz _ _ | .djnz _ _ | .undefined _ => []

/-- Every access of an instruction after the fetch of its opcode word. -/
def Instr.accesses (i : Instr) (s : State) : List (Access × Nat) := s.fetches i.extWords ++ i.operandAccesses s

/-! ### Instructions -/

/-- The instructions whose next `pc` is not always that of the following instruction: branches, calls and returns
(44_control.md), the repeating block forms (R400) and those that load a program status. -/
def Instr.branches : Instr → Bool
  | .jp _ _ | .jr _ _ | .call _ | .calr _ | .ret _ | .djnz _ _ | .dbjnz _ _ | .ldps _ | .iret
  | .ldir _ _ _ | .ldirb _ _ _ | .lddr _ _ _ | .lddrb _ _ _ | .cpir _ _ _ _ | .cpirb _ _ _ _ | .cpdr _ _ _ _
  | .cpdrb _ _ _ _ | .cpsir _ _ _ _ | .cpsirb _ _ _ _ | .cpsdr _ _ _ _ | .cpsdrb _ _ _ _ | .trirb _ _ _
  | .trdrb _ _ _ | .trtirb _ _ _ | .trtdrb _ _ _ | .inir _ _ _ | .inirb _ _ _ | .indr _ _ _ | .indrb _ _ _
  | .otir _ _ _ | .otirb _ _ _ | .otdr _ _ _ | .otdrb _ _ _ | .sinir _ _ _ | .sinirb _ _ _ | .sindr _ _ _
  | .sindrb _ _ _ | .sotir _ _ _ | .sotirb _ _ _ | .sotdr _ _ _ | .sotdrb _ _ _ => true
  | _ => false

/-- The instruction may run in the state `s`: its register fields name pairs and quads where they must, and the mode
is system mode if it is privileged. -/
def Instr.Runs (i : Instr) (s : State) : Prop :=
  i.pairsLegal s.segmented = true ∧ (i.privileged = true → s.system = true)

end Sys2Proof
end

