-- ==== Sys2Proof/Certificates/Slice0/Obligations.lean ====
section
/-!
DEFINITION. The statements for the provers. In each, `s` is the state in which an instruction executes: its opcode
word is fetched and its extension words are not (70_reset_and_hazards.md R710 step 5), so `s.pc` is the address after
the opcode word. Where a free value stands (log 4), nothing is said of it. A read answers what the host's bus adaptor
makes of it (20_memory.md R104), so what a store has left in memory is said of `t.bare`, the state with no adaptor; a
frame allows the SEGTRAP that the adaptor requests during an access (60_exceptions.md R608), and
`EveryInstructionCompletes` says exactly when it is requested.
-/

open Sys2Proof Sys2Proof.Machine

/-! ### Data movement (40_data_movement.md) -/

/-- R201, R207, R209, R213, R217: a word or long load puts the source in the register and changes nothing else. -/
def Obligations.LoadsFillTheRegister : Prop :=
  ∀ (s : State) (d : Reg),
    (∀ r, ∃ t, exec (.ldR d r) s = .next t ∧ t.reg d = s.reg r ∧ WordFrame s t (.reg d) 0 s.rest) ∧
    (∀ v, ∃ t, exec (.ldIM d v) s = .next t ∧ t.reg d = v ∧ WordFrame s t (.reg d) 0 s.rest) ∧
    (∀ k, ∃ t, exec (.ldk d k) s = .next t ∧ (t.reg d).toNat = k.toNat ∧ WordFrame s t (.reg d) 0 s.rest) ∧
    (∀ src, src.pairs s.segmented = true → ∃ t, exec (.ldMem d src) s = .next t ∧
      t.reg d = s.readWord .data (src.ea s) ∧ WordFrame s t (.reg d) 0 s.rest) ∧
    (∀ disp, ∃ t, exec (.ldrLoad d disp) s = .next t ∧
      t.reg d = s.readWord .data (s.addrAdd s.pc (2 + disp)) ∧ WordFrame s t (.reg d) 0 s.rest) ∧
    (∀ r, evenReg d = true → evenReg r = true → ∃ t, exec (.ldlR d r) s = .next t ∧
      t.longReg d = s.longReg r ∧ LongFrame s t (.reg d) 0 s.rest) ∧
    (∀ v, evenReg d = true → ∃ t, exec (.ldlIM d v) s = .next t ∧
      t.longReg d = v ∧ LongFrame s t (.reg d) 0 s.rest) ∧
    (∀ src, src.pairs s.segmented = true → evenReg d = true → ∃ t, exec (.ldlMem d src) s = .next t ∧
      t.longReg d = s.readLong .data (src.ea s) ∧ LongFrame s t (.reg d) 0 s.rest) ∧
    (∀ disp, evenReg d = true → ∃ t, exec (.ldrlLoad d disp) s = .next t ∧
      t.longReg d = s.readLong .data (s.addrAdd s.pc (2 + disp)) ∧ LongFrame s t (.reg d) 0 s.rest)

/-- R204, R211, R229: a byte load puts the byte in its half of the word register, keeps the other half, and sets Z, S
and PV by `BYTE_LOAD_FLAGS`. -/
def Obligations.ByteLoadsFillHalfARegister : Prop :=
  ∀ (s : State) (d : Reg),
    let loads := fun (i : Instr) (v : Byte) => ∃ t, exec i s = .next t ∧
      t.byteReg d = v ∧ LoadFlags s v t.fcw ∧ ByteFrame s t (.reg d) flagsZSP s.rest
    (∀ r, loads (.ldbR d r) (s.byteReg r)) ∧
    (∀ v, loads (.ldbIM d v) v) ∧
    (∀ v, loads (.ldbShort d v) v) ∧
    (∀ src, src.pairs s.segmented = true → loads (.ldbMem d src) (s.readByte .data (src.ea s))) ∧
    (∀ disp, loads (.ldrbLoad d disp) (s.readByte .data (s.addrAdd s.pc (2 + disp))))

/-- R202, R203, R205, R206, R208, R210, R212, R214: a store writes the register or immediate at the effective address
and changes no other byte of memory, no register and no flag. -/
def Obligations.StoresWriteTheirBytesOnly : Prop :=
  ∀ (s : State) (r : Reg),
    let storesW := fun (i : Instr) (a : Addr) (v : Word) => ∃ t, exec i s = .next t ∧
      t.bare.readWord .data a = v ∧ WordFrame s t (.addr a) 0 s.rest
    let storesB := fun (i : Instr) (a : Addr) (v : Byte) => ∃ t, exec i s = .next t ∧
      t.bare.readByte .data a = v ∧ ByteFrame s t (.addr a) 0 s.rest
    let storesL := fun (i : Instr) (a : Addr) (v : Long) => ∃ t, exec i s = .next t ∧
      t.bare.readLong .data a = v ∧ LongFrame s t (.addr a) 0 s.rest
    (∀ dst, dst.pairs s.segmented = true → storesW (.ldTo dst r) (dst.ea s) (s.reg r)) ∧
    (∀ dst v, dst.pairs s.segmented = true → storesW (.ldImm dst v) (dst.ea s) v) ∧
    (∀ disp, storesW (.ldrStore disp r) (s.addrAdd s.pc (2 + disp)) (s.reg r)) ∧
    (∀ dst, dst.pairs s.segmented = true → storesB (.ldbTo dst r) (dst.ea s) (s.byteReg r)) ∧
    (∀ dst v, dst.pairs s.segmented = true → storesB (.ldbImm dst v) (dst.ea s) v) ∧
    (∀ disp, storesB (.ldrbStore disp r) (s.addrAdd s.pc (2 + disp)) (s.byteReg r)) ∧
    (∀ dst, dst.pairs s.segmented = true → evenReg r = true →
      storesL (.ldlTo dst r) (dst.ea s) (s.longReg r)) ∧
    (∀ disp, evenReg r = true → storesL (.ldrlStore disp r) (s.addrAdd s.pc (2 + disp)) (s.longReg r))

/-- R226, R227: CLR and CLRB make their destination 0 and set no flag. R312, R313: TSET and TSETB set S from the old
sign and fill the operand with ones. R314, R315: TCC and TCCB write bit 0 from the condition, by `TCC_FALSE`, and set
no flag. -/
def Obligations.ClearsTestAndSetsTestConditions : Prop :=
  (∀ (s : State) (dst : RegMem), dst.pairs s.segmented = true →
     (∃ t, exec (.clr dst) s = .next t ∧ (dst.place s).get wordW t.bare = 0 ∧ WordFrame s t (dst.place s) 0 s.rest) ∧
     (∃ t, exec (.clrb dst) s = .next t ∧ (dst.place s).get byteW t.bare = 0 ∧ ByteFrame s t (dst.place s) 0 s.rest)) ∧
  (∀ (s : State),
     (∀ dst, dst.pairs s.segmented = true →
       (∃ t, exec (.tset dst) s = .next t ∧ (dst.place s).get wordW t.bare = 0xFFFF ∧
         flagS t.fcw = ((dst.place s).get wordW s).getLsbD 15 ∧ WordFrame s t (dst.place s) 0x0020 s.rest) ∧
       (∃ t, exec (.tsetb dst) s = .next t ∧ (dst.place s).get byteW t.bare = 0xFF ∧
         flagS t.fcw = ((dst.place s).get byteW s).getLsbD 7 ∧ ByteFrame s t (dst.place s) 0x0020 s.rest)) ∧
     (∀ c d, let keeps := decide (s.cfg.tccFalse = .keep)
       (∃ t, exec (.tcc c d) s = .next t ∧
         (∀ j, (t.reg d).getLsbD j =
           if j = 0 then cc c s.fcw || (keeps && (s.reg d).getLsbD 0) else (s.reg d).getLsbD j) ∧
         WordFrame s t (.reg d) 0 s.rest) ∧
       (∃ t, exec (.tccb c d) s = .next t ∧
         (∀ j, (t.byteReg d).getLsbD j =
           if j = 0 then cc c s.fcw || (keeps && (s.byteReg d).getLsbD 0) else (s.byteReg d).getLsbD j) ∧
         ByteFrame s t (.reg d) 0 s.rest)))

/-- R215, R216: LDA and LDAR put the effective address itself in the register, as segment word and offset in a pair in
segmented mode, as an offset otherwise; memory is not accessed. -/
def Obligations.LoadAddressGivesTheAddress : Prop :=
  ∀ (s : State) (d : Reg), ptrReg s.segmented d = true →
    let gives := fun (i : Instr) (a : Addr) => ∃ t, exec i s = .next t ∧
      (s.segmented = true → t.reg d = segWord a ∧ t.reg (d + 1) = offset a ∧
        LongFrame s t (.reg d) 0 s.rest) ∧
      (s.segmented = false → t.reg d = offset a ∧ WordFrame s t (.reg d) 0 s.rest)
    (∀ src, src.pairs s.segmented = true → gives (.lda d src) (src.ea s)) ∧
    (∀ disp, gives (.ldar d disp) (s.addrAdd s.pc (2 + disp)))

/-- R218, R219: LDM moves `n + 1` words between rising registers, from R15 on to R0, and rising word addresses. -/
def Obligations.LoadMultipleMovesEveryWord : Prop :=
  ∀ (s : State) (m : MemOp) (r : Reg) (n : BitVec 4), m.pairs s.segmented = true →
    let regs := (List.range (n.toNat + 1)).map fun j => r + BitVec.ofNat 4 j
    let place := fun j => s.addrAdd (wordAlign (m.ea s)) (BitVec.ofNat 16 (2 * j))
    (∃ t, exec (.ldm r m n) s = .next t ∧
      (∀ j, j ≤ n.toNat → t.reg (r + BitVec.ofNat 4 j) = s.readWord .data (place j)) ∧
      Frame s t regs [] 0 s.rest) ∧
    (∃ t, exec (.ldmTo m r n) s = .next t ∧
      (∀ j, j ≤ n.toNat → t.bare.readWord .data (place j) = s.reg (r + BitVec.ofNat 4 j)) ∧
      Frame s t [] ((List.range (n.toNat + 1)).flatMap fun j => s.wordCells (place j)) 0 s.rest)

/-- R220, R221: EX and EXB exchange the register and the operand, and change nothing else. -/
def Obligations.ExchangeSwapsOperands : Prop :=
  ∀ (s : State) (d : Reg) (src : RegMem), src.pairs s.segmented = true →
    (∃ t, exec (.ex d src) s = .next t ∧
      t.reg d = (src.place s).get wordW s ∧ (src.place s).get wordW t.bare = s.reg d ∧
      Frame s t (match src.place s with | .reg r => [d, r] | .addr _ => [d])
        (match src.place s with | .reg _ => [] | .addr a => s.wordCells a) 0 s.rest) ∧
    (∃ t, exec (.exb d src) s = .next t ∧
      t.byteReg d = (src.place s).get byteW s ∧ (src.place s).get byteW t.bare = s.byteReg d ∧
      (∀ k, k ≠ d → src ≠ .reg k → t.byteReg k = s.byteReg k) ∧
      Frame s t (match src.place s with | .reg r => [s.byteHome d, s.byteHome r] | .addr _ => [s.byteHome d])
        (match src.place s with | .reg _ => [] | .addr a => s.byteCells a) 0 s.rest)

/-- R222 to R225, R228: PUSH and PUSHL read the source, move the stack pointer down by the operand's size, and store the
source there. POP and POPL take the operand from the top and move the stack pointer up; a register destination that is
the stack pointer itself ends with the value popped, and an address is computed before the pop. -/
def Obligations.PushesAndPopsMoveTheStack : Prop :=
  (∀ (s : State) (p : Reg), ptrReg s.segmented p = true →
     (∀ src, src.pairs s.segmented = true → ∃ t, exec (.push p src) s = .next t ∧
       t.reg (s.offsetReg p) = s.reg (s.offsetReg p) - 2 ∧
       t.bare.readWord .stack ((s.stepPointer p (-2)).pointer p) = src.value wordW s ∧
       Frame s t [s.offsetReg p] (s.wordCells ((s.stepPointer p (-2)).pointer p)) 0 s.rest) ∧
     (∀ src, src.pairsL s.segmented = true → ∃ t, exec (.pushl p src) s = .next t ∧
       t.reg (s.offsetReg p) = s.reg (s.offsetReg p) - 4 ∧
       t.bare.readLong .stack ((s.stepPointer p (-4)).pointer p) = (src.place s).get longW s ∧
       Frame s t [s.offsetReg p] (s.longCells ((s.stepPointer p (-4)).pointer p)) 0 s.rest)) ∧
  (∀ (s : State) (p : Reg), ptrReg s.segmented p = true →
     (∀ r, ∃ t, exec (.pop (.reg r) p) s = .next t ∧ t.reg r = s.readWord .stack (s.pointer p) ∧
       (r ≠ s.offsetReg p → t.reg (s.offsetReg p) = s.reg (s.offsetReg p) + 2) ∧
       Frame s t [r, s.offsetReg p] [] 0 s.rest) ∧
     (∀ m, m.pairs s.segmented = true → ∃ t, exec (.pop (.mem m) p) s = .next t ∧
       t.bare.readWord .data (m.ea s) = s.readWord .stack (s.pointer p) ∧
       t.reg (s.offsetReg p) = s.reg (s.offsetReg p) + 2 ∧
       Frame s t [s.offsetReg p] (s.wordCells (m.ea s)) 0 s.rest) ∧
     (∀ r, evenReg r = true → ∃ t, exec (.popl (.reg r) p) s = .next t ∧
       t.longReg r = s.readLong .stack (s.pointer p) ∧
       (s.offsetReg p ∉ [r, r + 1] → t.reg (s.offsetReg p) = s.reg (s.offsetReg p) + 4) ∧
       Frame s t [r, r + 1, s.offsetReg p] [] 0 s.rest) ∧
     (∀ m, m.pairs s.segmented = true → ∃ t, exec (.popl (.mem m) p) s = .next t ∧
       t.bare.readLong .data (m.ea s) = s.readLong .stack (s.pointer p) ∧
       t.reg (s.offsetReg p) = s.reg (s.offsetReg p) + 4 ∧
       Frame s t [s.offsetReg p] (s.longCells (m.ea s)) 0 s.rest))

/-- R222 to R225, R228: a pop after a push of the same width, through the same stack pointer, gives the value pushed and
restores the stack pointer, where the bus adaptor answers no read of the stack with a placeholder. -/
def Obligations.PopUndoesPush : Prop :=
  ∀ (s : State) (p q : Reg), ptrReg s.segmented p = true → q ≠ s.offsetReg p →
    (∀ g ∈ s.guards, g.access ≠ .read .stack) →
    (∀ src, src.pairs s.segmented = true → ∃ t u, exec (.push p src) s = .next t ∧
      exec (.pop (.reg q) p) t = .next u ∧ u.reg q = src.value wordW s ∧
      u.reg (s.offsetReg p) = s.reg (s.offsetReg p)) ∧
    (∀ src, src.pairsL s.segmented = true → evenReg q = true → s.offsetReg p ≠ q + 1 →
      ∃ t u, exec (.pushl p src) s = .next t ∧ exec (.popl (.reg q) p) t = .next u ∧
        u.longReg q = (src.place s).get longW s ∧ u.reg (s.offsetReg p) = s.reg (s.offsetReg p))

/-! ### Arithmetic (41_arithmetic.md) -/

/-- R250 to R255: the additions. -/
def Obligations.AdditionsGiveSumAndFlags : Prop :=
  ∀ (s : State) (d : Reg),
    (∀ src, src.pairs s.segmented = true → ∃ t, exec (.add d src) s = .next t ∧
      t.reg d = s.reg d + src.value wordW s ∧ AddFlags (s.reg d) (src.value wordW s) false t.fcw ∧
      WordFrame s t (.reg d) flagsCZSP s.rest) ∧
    (∀ src, src.pairs s.segmented = true → ∃ t, exec (.addb d src) s = .next t ∧
      t.byteReg d = s.byteReg d + src.value byteW s ∧ AddFlags (s.byteReg d) (src.value byteW s) false t.fcw ∧
      HalfAdd (s.byteReg d) (src.value byteW s) false t.fcw ∧ ByteFrame s t (.reg d) flagsAll s.rest) ∧
    (∀ src, src.pairsL s.segmented = true → evenReg d = true → ∃ t, exec (.addl d src) s = .next t ∧
      t.longReg d = s.longReg d + src.value longW s ∧
      AddFlags (s.longReg d) (src.value longW s) false t.fcw ∧ LongFrame s t (.reg d) flagsCZSP s.rest) ∧
    (∀ r, ∃ t, exec (.adc d r) s = .next t ∧
      t.reg d = s.reg d + s.reg r + BitVec.ofNat 16 (flagC s.fcw).toNat ∧
      AddFlags (s.reg d) (s.reg r) (flagC s.fcw) t.fcw ∧ WordFrame s t (.reg d) flagsCZSP s.rest) ∧
    (∀ r, ∃ t, exec (.adcb d r) s = .next t ∧
      t.byteReg d = s.byteReg d + s.byteReg r + BitVec.ofNat 8 (flagC s.fcw).toNat ∧
      AddFlags (s.byteReg d) (s.byteReg r) (flagC s.fcw) t.fcw ∧
      HalfAdd (s.byteReg d) (s.byteReg r) (flagC s.fcw) t.fcw ∧ ByteFrame s t (.reg d) flagsAll s.rest)

/-- R250, R256 to R260: the subtractions. -/
def Obligations.SubtractionsGiveDifferenceAndFlags : Prop :=
  ∀ (s : State) (d : Reg),
    (∀ src, src.pairs s.segmented = true → ∃ t, exec (.sub d src) s = .next t ∧
      t.reg d = s.reg d - src.value wordW s ∧ SubFlags (s.reg d) (src.value wordW s) false t.fcw ∧
      WordFrame s t (.reg d) flagsCZSP s.rest) ∧
    (∀ src, src.pairs s.segmented = true → ∃ t, exec (.subb d src) s = .next t ∧
      t.byteReg d = s.byteReg d - src.value byteW s ∧ SubFlags (s.byteReg d) (src.value byteW s) false t.fcw ∧
      HalfSub (s.byteReg d) (src.value byteW s) false t.fcw ∧ ByteFrame s t (.reg d) flagsAll s.rest) ∧
    (∀ src, src.pairsL s.segmented = true → evenReg d = true → ∃ t, exec (.subl d src) s = .next t ∧
      t.longReg d = s.longReg d - src.value longW s ∧
      SubFlags (s.longReg d) (src.value longW s) false t.fcw ∧ LongFrame s t (.reg d) flagsCZSP s.rest) ∧
    (∀ r, ∃ t, exec (.sbc d r) s = .next t ∧
      t.reg d = s.reg d - s.reg r - BitVec.ofNat 16 (flagC s.fcw).toNat ∧
      SubFlags (s.reg d) (s.reg r) (flagC s.fcw) t.fcw ∧ WordFrame s t (.reg d) flagsCZSP s.rest) ∧
    (∀ r, ∃ t, exec (.sbcb d r) s = .next t ∧
      t.byteReg d = s.byteReg d - s.byteReg r - BitVec.ofNat 8 (flagC s.fcw).toNat ∧
      SubFlags (s.byteReg d) (s.byteReg r) (flagC s.fcw) t.fcw ∧
      HalfSub (s.byteReg d) (s.byteReg r) (flagC s.fcw) t.fcw ∧ ByteFrame s t (.reg d) flagsAll s.rest)

/-- R261 to R265: the comparisons set the flags of the difference and change nothing else, in every width. -/
def Obligations.ComparisonsOnlySetFlags : Prop :=
  ∀ (s : State),
    (∀ d src, src.pairs s.segmented = true → ∃ t, exec (.cp d src) s = .next t ∧
      SubFlags (s.reg d) (src.value wordW s) false t.fcw ∧ Frame s t [] [] flagsCZSP s.rest) ∧
    (∀ d src, src.pairs s.segmented = true → ∃ t, exec (.cpb d src) s = .next t ∧
      SubFlags (s.byteReg d) (src.value byteW s) false t.fcw ∧ Frame s t [] [] flagsCZSP s.rest) ∧
    (∀ d src, src.pairsL s.segmented = true → evenReg d = true → ∃ t, exec (.cpl d src) s = .next t ∧
      SubFlags (s.longReg d) (src.value longW s) false t.fcw ∧ Frame s t [] [] flagsCZSP s.rest) ∧
    (∀ dst v, dst.pairs s.segmented = true → ∃ t, exec (.cpImm dst v) s = .next t ∧
      SubFlags (s.readWord .data (dst.ea s)) v false t.fcw ∧ Frame s t [] [] flagsCZSP s.rest) ∧
    (∀ dst v, dst.pairs s.segmented = true → ∃ t, exec (.cpbImm dst v) s = .next t ∧
      SubFlags (s.readByte .data (dst.ea s)) v false t.fcw ∧ Frame s t [] [] flagsCZSP s.rest)

/-- R160: the table of the condition codes, in which a code and its complement never agree. R250, R261: after a
comparison they order the operands, signed and unsigned. -/
def Obligations.ConditionCodesOrderOperands : Prop :=
  (∀ (c : CondCode) (f : Word), cc (c ^^^ 8) f = !cc c f) ∧
  (∀ (f : Word),
    cc 0 f = false ∧ cc 1 f = (flagS f ^^ flagPV f) ∧ cc 2 f = (flagZ f || (flagS f ^^ flagPV f)) ∧
    cc 3 f = (flagC f || flagZ f) ∧ cc 4 f = flagPV f ∧ cc 5 f = flagS f ∧ cc 6 f = flagZ f ∧ cc 7 f = flagC f) ∧
  (∀ (n : Nat) (a b : BitVec n) (f : Word), 0 < n → SubFlags a b false f →
    (cc 1 f = true ↔ a.toInt < b.toInt) ∧
    (cc 2 f = true ↔ a.toInt ≤ b.toInt) ∧
    (cc 3 f = true ↔ a.toNat ≤ b.toNat) ∧
    (cc 4 f = true ↔ ¬ Fits n (a.toInt - b.toInt)) ∧
    (cc 6 f = true ↔ a = b) ∧
    (cc 7 f = true ↔ a.toNat < b.toNat))

/-- R268 to R271: INC and DEC add or subtract 1 to 16 and set Z, S and PV, not C. R266, R267: NEG and NEGB negate; C
tells a nonzero operand, PV the one value whose negation does not fit. -/
def Obligations.CountingAndNegationFlags : Prop :=
  (∀ (s : State) (dst : RegMem) (k : BitVec 4), dst.pairs s.segmented = true →
     let w := (dst.place s).get wordW s
     let b := (dst.place s).get byteW s
     let countsW := fun (i : Instr) (r : Word) (v : Int) => ∃ t, exec i s = .next t ∧
       (dst.place s).get wordW t.bare = r ∧ ZeroSign r t.fcw ∧ (flagPV t.fcw = true ↔ ¬ Fits 16 v) ∧
       WordFrame s t (dst.place s) flagsZSP s.rest
     let countsB := fun (i : Instr) (r : Byte) (v : Int) => ∃ t, exec i s = .next t ∧
       (dst.place s).get byteW t.bare = r ∧ ZeroSign r t.fcw ∧ (flagPV t.fcw = true ↔ ¬ Fits 8 v) ∧
       ByteFrame s t (dst.place s) flagsZSP s.rest
     countsW (.inc dst k) (w + BitVec.ofNat 16 (k.toNat + 1)) (w.toInt + (k.toNat + 1)) ∧
     countsW (.dec dst k) (w - BitVec.ofNat 16 (k.toNat + 1)) (w.toInt - (k.toNat + 1)) ∧
     countsB (.incb dst k) (b + BitVec.ofNat 8 (k.toNat + 1)) (b.toInt + (k.toNat + 1)) ∧
     countsB (.decb dst k) (b - BitVec.ofNat 8 (k.toNat + 1)) (b.toInt - (k.toNat + 1))) ∧
  (∀ (s : State) (dst : RegMem), dst.pairs s.segmented = true →
     (∃ t, exec (.neg dst) s = .next t ∧
       (dst.place s).get wordW t.bare = -((dst.place s).get wordW s) ∧ ZeroSign (-((dst.place s).get wordW s)) t.fcw ∧
       (flagC t.fcw = true ↔ (dst.place s).get wordW s ≠ 0) ∧
       (flagPV t.fcw = true ↔ ¬ Fits 16 (-((dst.place s).get wordW s).toInt)) ∧
       WordFrame s t (dst.place s) flagsCZSP s.rest) ∧
     (∃ t, exec (.negb dst) s = .next t ∧
       (dst.place s).get byteW t.bare = -((dst.place s).get byteW s) ∧ ZeroSign (-((dst.place s).get byteW s)) t.fcw ∧
       (flagC t.fcw = true ↔ (dst.place s).get byteW s ≠ 0) ∧
       (flagPV t.fcw = true ↔ ¬ Fits 8 (-((dst.place s).get byteW s).toInt)) ∧
       ByteFrame s t (dst.place s) flagsCZSP s.rest))

/-- R272, R273: MULT and MULTL leave the exact signed product; C tells that it needs the high half. -/
def Obligations.MultiplicationIsExact : Prop :=
  ∀ (s : State) (d : Reg),
    (∀ src, src.pairs s.segmented = true → evenReg d = true → ∃ t, exec (.mult d src) s = .next t ∧
      let p := (s.reg (d + 1)).toInt * (src.value wordW s).toInt
      (t.longReg d).toInt = p ∧ (flagC t.fcw = true ↔ ¬ Fits 16 p) ∧ (flagZ t.fcw = true ↔ p = 0) ∧
      (flagS t.fcw = true ↔ p < 0) ∧ flagPV t.fcw = false ∧ LongFrame s t (.reg d) flagsCZSP s.rest) ∧
    (∀ src, src.pairsL s.segmented = true → quadReg d = true → ∃ t, exec (.multl d src) s = .next t ∧
      let p := (s.longReg (d + 2)).toInt * (src.value longW s).toInt
      (t.quadReg d).toInt = p ∧ (flagC t.fcw = true ↔ ¬ Fits 32 p) ∧ (flagZ t.fcw = true ↔ p = 0) ∧
      (flagS t.fcw = true ↔ p < 0) ∧ flagPV t.fcw = false ∧
      Frame s t [d, d + 1, d + 2, d + 3] [] flagsCZSP s.rest)

/-- R280 to R282: where the divisor is not 0 and the quotient fits, DIV and DIVL leave quotient and remainder, the
remainder smaller than the divisor and with the dividend's sign. -/
def Obligations.DivisionGivesQuotientAndRemainder : Prop :=
  ∀ (s : State) (d : Reg),
    let divides := fun (a b q r : Int) => a = b * q + r ∧ r.natAbs < b.natAbs ∧ (r ≠ 0 → (r < 0 ↔ a < 0))
    let flags := fun (q : Int) (f : Word) =>
      flagC f = false ∧ (flagZ f = true ↔ q = 0) ∧ (flagS f = true ↔ q < 0) ∧ flagPV f = false
    (∀ src, src.pairs s.segmented = true → evenReg d = true →
      (src.value wordW s).toInt ≠ 0 → Fits 16 (Int.tdiv (s.longReg d).toInt (src.value wordW s).toInt) →
      ∃ t, exec (.div d src) s = .next t ∧
        divides (s.longReg d).toInt (src.value wordW s).toInt (t.reg (d + 1)).toInt (t.reg d).toInt ∧
        flags (t.reg (d + 1)).toInt t.fcw ∧ LongFrame s t (.reg d) flagsCZSP s.restDrawn) ∧
    (∀ src, src.pairsL s.segmented = true → quadReg d = true →
      (src.value longW s).toInt ≠ 0 → Fits 32 (Int.tdiv (s.quadReg d).toInt (src.value longW s).toInt) →
      ∃ t, exec (.divl d src) s = .next t ∧
        divides (s.quadReg d).toInt (src.value longW s).toInt (t.longReg (d + 2)).toInt (t.longReg d).toInt ∧
        flags (t.longReg (d + 2)).toInt t.fcw ∧
        Frame s t [d, d + 1, d + 2, d + 3] [] flagsCZSP s.restDrawn)

/-- R283: after a division by zero, or one whose quotient does not fit, PV is 1 and the machine goes on; TRAP is
requested only under `DIV_ZERO_TRAPS`. Destination, C, Z and S are free. -/
def Obligations.BadDivisionSetsOverflow : Prop :=
  ∀ (s : State) (d : Reg),
    let rest := if s.cfg.divZeroTraps then { s.restDrawn with irqReq := s.irqReq.raise .trap } else s.restDrawn
    (∀ src, src.pairs s.segmented = true → evenReg d = true →
      ((src.value wordW s).toInt = 0 ∨ ¬ Fits 16 (Int.tdiv (s.longReg d).toInt (src.value wordW s).toInt)) →
      ∃ t, exec (.div d src) s = .next t ∧ flagPV t.fcw = true ∧ t.pc = s.pcAfter (src.extWords 1) ∧
        LongFrame s t (.reg d) flagsCZSP rest) ∧
    (∀ src, src.pairsL s.segmented = true → quadReg d = true →
      ((src.value longW s).toInt = 0 ∨ ¬ Fits 32 (Int.tdiv (s.quadReg d).toInt (src.value longW s).toInt)) →
      ∃ t, exec (.divl d src) s = .next t ∧ flagPV t.fcw = true ∧ t.pc = s.pcAfter (src.extWords 2) ∧
        Frame s t [d, d + 1, d + 2, d + 3] [] flagsCZSP rest)

/-- R285 to R287: the extensions keep the signed value and set no flag. -/
def Obligations.ExtensionsKeepTheSignedValue : Prop :=
  ∀ (s : State) (d : Reg),
    (∃ t, exec (.extsb d) s = .next t ∧ (t.reg d).toInt = (lowByte (s.reg d)).toInt ∧
      WordFrame s t (.reg d) 0 s.rest) ∧
    (evenReg d = true → ∃ t, exec (.exts d) s = .next t ∧ (t.longReg d).toInt = (s.reg (d + 1)).toInt ∧
      WordFrame s t (.reg d) 0 s.rest) ∧
    (quadReg d = true → ∃ t, exec (.extsl d) s = .next t ∧ (t.quadReg d).toInt = (s.longReg (d + 2)).toInt ∧
      LongFrame s t (.reg d) 0 s.rest)

/-- R290 to R292: DAB after ADDB or ADCB of two bytes that hold decimal digits gives the decimal sum, C being the carry
out of the two digits; after SUBB or SBCB, the decimal difference, C being the borrow. On every byte DAB completes and
writes C, Z, S and the byte only. -/
def Obligations.DecimalAdjustCorrectsBcd : Prop :=
  (∀ (s : State) (d r : Reg), IsBcd (s.byteReg d) → IsBcd (s.byteReg r) →
     let a := bcdValue (s.byteReg d)
     let b := bcdValue (s.byteReg r)
     let ci := (flagC s.fcw).toNat
     let adjusts := fun (i : Instr) (value : Int) => ∃ t u, exec i s = .next t ∧ exec (.dab d) t = .next u ∧
       IsBcd (u.byteReg d) ∧ (bcdValue (u.byteReg d) : Int) = value % 100 ∧
       (flagC u.fcw = true ↔ value < 0 ∨ 100 ≤ value) ∧ ZeroSign (u.byteReg d) u.fcw ∧
       ByteFrame t u (.reg d) flagsCZS t.rest
     adjusts (.addb d (.reg r)) (a + b) ∧
     adjusts (.adcb d r) (a + b + ci) ∧
     adjusts (.subb d (.reg r)) (a - b) ∧
     adjusts (.sbcb d r) (a - b - ci)) ∧
  (∀ (s : State) (d : Reg), ∃ t, exec (.dab d) s = .next t ∧ ZeroSign (t.byteReg d) t.fcw ∧
     ByteFrame s t (.reg d) flagsCZS s.rest)

/-! ### Logical, test and bit instructions (42_logical_bit.md) -/

/-- R300 to R306: AND, OR and XOR, bit by bit, with Z, S and PV; C is kept. -/
def Obligations.LogicalOperationsActBitwise : Prop :=
  ∀ (s : State) (d : Reg),
    let word := fun (i : Source Word → Instr) (f : Bool → Bool → Bool) => ∀ src, src.pairs s.segmented = true →
      ∃ t, exec (i src) s = .next t ∧
        (∀ j, j < 16 → (t.reg d).getLsbD j = f ((s.reg d).getLsbD j) ((src.value wordW s).getLsbD j)) ∧
        LogicWide s (t.reg d) t.fcw ∧ WordFrame s t (.reg d) flagsZSP s.rest
    let byte := fun (i : Source Byte → Instr) (f : Bool → Bool → Bool) => ∀ src, src.pairs s.segmented = true →
      ∃ t, exec (i src) s = .next t ∧
        (∀ j, j < 8 → (t.byteReg d).getLsbD j = f ((s.byteReg d).getLsbD j) ((src.value byteW s).getLsbD j)) ∧
        LogicByte (t.byteReg d) t.fcw ∧ ByteFrame s t (.reg d) flagsZSP s.rest
    word (.and d) (· && ·) ∧ word (.or d) (· || ·) ∧ word (.xor d) (· ^^ ·) ∧
    byte (.andb d) (· && ·) ∧ byte (.orb d) (· || ·) ∧ byte (.xorb d) (· ^^ ·)

/-- R307 to R311: COM and COMB invert every bit; TEST, TESTB and TESTL set the flags of the operand and write nothing.
-/
def Obligations.ComplementsAndTestsSetLogicFlags : Prop :=
  ∀ (s : State) (dst : RegMem),
    (dst.pairs s.segmented = true → ∃ t, exec (.com dst) s = .next t ∧
      (∀ j, j < 16 → ((dst.place s).get wordW t.bare).getLsbD j = !((dst.place s).get wordW s).getLsbD j) ∧
      LogicWide s ((dst.place s).get wordW t.bare) t.fcw ∧ WordFrame s t (dst.place s) flagsZSP s.rest) ∧
    (dst.pairs s.segmented = true → ∃ t, exec (.comb dst) s = .next t ∧
      (∀ j, j < 8 → ((dst.place s).get byteW t.bare).getLsbD j = !((dst.place s).get byteW s).getLsbD j) ∧
      LogicByte ((dst.place s).get byteW t.bare) t.fcw ∧ ByteFrame s t (dst.place s) flagsZSP s.rest) ∧
    (dst.pairs s.segmented = true → ∃ t, exec (.test dst) s = .next t ∧
      LogicWide s ((dst.place s).get wordW s) t.fcw ∧ Frame s t [] [] flagsZSP s.rest) ∧
    (dst.pairs s.segmented = true → ∃ t, exec (.testb dst) s = .next t ∧
      LogicByte ((dst.place s).get byteW s) t.fcw ∧ Frame s t [] [] flagsZSP s.rest) ∧
    (dst.pairsL s.segmented = true → ∃ t, exec (.testl dst) s = .next t ∧
      LogicWide s ((dst.place s).get longW s) t.fcw ∧ Frame s t [] [] flagsZSP s.rest)

/-- R316 to R321: BIT, SET and RES with a bit number in the instruction. BIT writes Z alone; SET and RES write one bit
of the operand and no flag. -/
def Obligations.StaticBitInstructionsTouchOneBit : Prop :=
  ∀ (s : State) (dst : RegMem) (b : BitVec 4), dst.pairs s.segmented = true →
    let w := (dst.place s).get wordW s
    let y := (dst.place s).get byteW s
    (∃ t, exec (.bit dst b) s = .next t ∧ flagZ t.fcw = !w.getLsbD b.toNat ∧ Frame s t [] [] 0x0040 s.rest) ∧
    (∃ t, exec (.bitb dst b) s = .next t ∧ flagZ t.fcw = !y.getLsbD (b.toNat % 8) ∧
      Frame s t [] [] 0x0040 s.rest) ∧
    (∃ t, exec (.set dst b) s = .next t ∧
      (∀ j, j < 16 → ((dst.place s).get wordW t.bare).getLsbD j = (decide (j = b.toNat) || w.getLsbD j)) ∧
      WordFrame s t (dst.place s) 0 s.rest) ∧
    (∃ t, exec (.setb dst b) s = .next t ∧
      (∀ j, j < 8 → ((dst.place s).get byteW t.bare).getLsbD j = (decide (j = b.toNat % 8) || y.getLsbD j)) ∧
      ByteFrame s t (dst.place s) 0 s.rest) ∧
    (∃ t, exec (.res dst b) s = .next t ∧
      (∀ j, j < 16 → ((dst.place s).get wordW t.bare).getLsbD j = (!decide (j = b.toNat) && w.getLsbD j)) ∧
      WordFrame s t (dst.place s) 0 s.rest) ∧
    (∃ t, exec (.resb dst b) s = .next t ∧
      (∀ j, j < 8 → ((dst.place s).get byteW t.bare).getLsbD j = (!decide (j = b.toNat % 8) && y.getLsbD j)) ∧
      ByteFrame s t (dst.place s) 0 s.rest)

/-- R322 to R328: the same with the bit number in a register, by `BITDYN_BITS`; a number beyond the width names no
bit. -/
def Obligations.DynamicBitInstructionsTouchOneBit : Prop :=
  ∀ (s : State) (d r : Reg),
    let k := dynamicBit s.cfg.bitdynBits 16 (s.reg r)
    let l := dynamicBit s.cfg.bitdynBits 8 (s.reg r)
    (∃ t, exec (.bitDyn d r) s = .next t ∧ flagZ t.fcw = !(s.reg d).getLsbD k ∧ Frame s t [] [] 0x0040 s.rest) ∧
    (∃ t, exec (.bitbDyn d r) s = .next t ∧ flagZ t.fcw = !(s.byteReg d).getLsbD l ∧
      Frame s t [] [] 0x0040 s.rest) ∧
    (∃ t, exec (.setDyn d r) s = .next t ∧
      (∀ j, j < 16 → (t.reg d).getLsbD j = (decide (j = k) || (s.reg d).getLsbD j)) ∧
      WordFrame s t (.reg d) 0 s.rest) ∧
    (∃ t, exec (.setbDyn d r) s = .next t ∧
      (∀ j, j < 8 → (t.byteReg d).getLsbD j = (decide (j = l) || (s.byteReg d).getLsbD j)) ∧
      ByteFrame s t (.reg d) 0 s.rest) ∧
    (∃ t, exec (.resDyn d r) s = .next t ∧
      (∀ j, j < 16 → (t.reg d).getLsbD j = (!decide (j = k) && (s.reg d).getLsbD j)) ∧
      WordFrame s t (.reg d) 0 s.rest) ∧
    (∃ t, exec (.resbDyn d r) s = .next t ∧
      (∀ j, j < 8 → (t.byteReg d).getLsbD j = (!decide (j = l) && (s.byteReg d).getLsbD j)) ∧
      ByteFrame s t (.reg d) 0 s.rest)

/-! ### Shifts and rotates (43_shift_rotate.md) -/

/-- R341 to R348, R364: a rotate by 1 or 2 is that many single-bit rotates, of the operand alone or with the carry. -/
def Obligations.RotatesAreSingleBitSteps : Prop :=
  ∀ (s : State) (d : Reg) (two : Bool),
    let k := if two then 2 else 1
    let word := fun (i : Instr) (left carry : Bool) => ∃ t, exec i s = .next t ∧
      RotateResult left carry (flagC s.fcw) (s.reg d) k (t.reg d) t.fcw ∧
      WordFrame s t (.reg d) flagsCZSP s.restDrawn
    let byte := fun (i : Instr) (left carry : Bool) => ∃ t, exec i s = .next t ∧
      RotateResult left carry (flagC s.fcw) (s.byteReg d) k (t.byteReg d) t.fcw ∧
      ByteFrame s t (.reg d) flagsCZSP s.restDrawn
    word (.rl d two) true false ∧ word (.rlc d two) true true ∧
    word (.rr d two) false false ∧ word (.rrc d two) false true ∧
    byte (.rlb d two) true false ∧ byte (.rlcb d two) true true ∧
    byte (.rrb d two) false false ∧ byte (.rrcb d two) false true

/-- R340, R349 to R360, R363 to R365: the shifts, by a count in the instruction or in a register. -/
def Obligations.ShiftsMoveBySignedCount : Prop :=
  ∀ (s : State) (d r : Reg) (n : Word),
    let word := fun (i : Instr) (arith : Bool) (count : Word) => ∃ t, exec i s = .next t ∧
      ShiftResult arith (s.reg d) (lowByte count).toInt (t.reg d) t.fcw ∧
      WordFrame s t (.reg d) flagsCZSP s.restDrawn
    let byte := fun (i : Instr) (arith : Bool) (count : Word) => ∃ t, exec i s = .next t ∧
      ShiftResult arith (s.byteReg d) (lowByte count).toInt (t.byteReg d) t.fcw ∧
      ByteFrame s t (.reg d) flagsCZSP s.restDrawn
    let long := fun (i : Instr) (arith : Bool) (count : Word) => evenReg d = true → ∃ t, exec i s = .next t ∧
      ShiftResult arith (s.longReg d) (lowByte count).toInt (t.longReg d) t.fcw ∧
      LongFrame s t (.reg d) flagsCZSP s.restDrawn
    word (.sla d n) true n ∧ word (.sll d n) false n ∧
    word (.sda d r) true (s.reg r) ∧ word (.sdl d r) false (s.reg r) ∧
    byte (.slab d n) true n ∧ byte (.sllb d n) false n ∧
    byte (.sdab d r) true (s.reg r) ∧ byte (.sdlb d r) false (s.reg r) ∧
    long (.slal d n) true n ∧ long (.slll d n) false n ∧
    long (.sdal d r) true (s.reg r) ∧ long (.sdll d r) false (s.reg r)

/-- R361, R362: RLDB and RRDB move the three digits that are the source byte and the low digit of the link byte; where
both are one register the link's write is the one that stays. C and PV are kept. -/
def Obligations.DigitRotatesMoveThreeDigits : Prop :=
  ∀ (s : State) (l r : Reg),
    let lo := fun (b : Byte) => b.toNat % 16
    let hi := fun (b : Byte) => b.toNat / 16
    let keeps := fun (t : State) => (∀ k, k ≠ l → k ≠ r → t.byteReg k = s.byteReg k) ∧
      Frame s t [s.byteHome l, s.byteHome r] [] flagsZS s.restDrawn
    (∃ t, exec (.rldb l r) s = .next t ∧
      (t.byteReg l).toNat = hi (s.byteReg l) * 16 + hi (s.byteReg r) ∧
      (r ≠ l → (t.byteReg r).toNat = lo (s.byteReg r) * 16 + lo (s.byteReg l)) ∧ keeps t) ∧
    (∃ t, exec (.rrdb l r) s = .next t ∧
      (t.byteReg l).toNat = hi (s.byteReg l) * 16 + lo (s.byteReg r) ∧
      (r ≠ l → (t.byteReg r).toNat = lo (s.byteReg l) * 16 + hi (s.byteReg r)) ∧ keeps t)

/-! ### Control transfer (44_control.md) -/

/-- R371, R372: JP and JR go to their target when the condition holds, and on to the next instruction otherwise. R376,
R377: DJNZ and DBJNZ count down by 1, modulo the width, and branch back while the counter is not 0. -/
def Obligations.JumpsFollowConditionOrCounter : Prop :=
  (∀ (s : State) (c : CondCode),
     (∀ dst, dst.pairs s.segmented = true → ∃ t, exec (.jp c dst) s = .next t ∧
       t.pc = (if cc c s.fcw then pcValue s.cfg.variant (dst.ea s) else s.pcAfter dst.extWords) ∧
       Frame s t [] [] 0 s.rest) ∧
     (∀ disp, ∃ t, exec (.jr c disp) s = .next t ∧
       t.pc = (if cc c s.fcw then pcValue s.cfg.variant (s.addrAdd s.pc (BitVec.ofInt 16 (2 * disp.toInt)))
         else s.pc) ∧
       Frame s t [] [] 0 s.rest)) ∧
  (∀ (s : State) (d : Reg) (disp : BitVec 7),
     let back := pcValue s.cfg.variant (s.addrAdd s.pc (-(BitVec.ofNat 16 (2 * disp.toNat))))
     (∃ t, exec (.djnz d disp) s = .next t ∧ t.reg d = s.reg d - 1 ∧
       t.pc = (if t.reg d = 0 then s.pc else back) ∧ WordFrame s t (.reg d) 0 s.rest) ∧
     (∃ t, exec (.dbjnz d disp) s = .next t ∧ t.byteReg d = s.byteReg d - 1 ∧
       t.pc = (if t.byteReg d = 0 then s.pc else back) ∧ ByteFrame s t (.reg d) 0 s.rest))

/-- R370, R373, R374: CALL and CALR push the address of the next instruction, as a segment word and an offset in
segmented mode and as an offset otherwise, and go to their target, which is computed before the push. R375: RET pops an
address into `pc` when the condition holds, and does nothing otherwise. -/
def Obligations.CallsPushAndReturnsPop : Prop :=
  (∀ (s : State),
     let calls := fun (i : Instr) (back target : Addr) =>
       let k : Word := if s.segmented then 4 else 2
       let top := (s.stepPointer s.spReg (-k)).pointer s.spReg
       ∃ t, exec i s = .next t ∧ t.pc = pcValue s.cfg.variant target ∧ t.reg 15 = s.reg 15 - k ∧
         (s.segmented = true → t.bare.readLong .stack top = segWord back ++ offset back ∧
           Frame s t [15] (s.longCells top) 0 s.rest) ∧
         (s.segmented = false → t.bare.readWord .stack top = offset back ∧ Frame s t [15] (s.wordCells top) 0 s.rest)
     (∀ dst, dst.pairs s.segmented = true → calls (.call dst) (s.pcAfter dst.extWords) (dst.ea s)) ∧
     (∀ disp, calls (.calr disp) s.pc (s.addrAdd s.pc (BitVec.ofInt 16 (-2 * disp.toInt))))) ∧
  (∀ (s : State) (c : CondCode), ∃ t, exec (.ret c) s = .next t ∧
     (cc c s.fcw = false → t.pc = s.pc ∧ Frame s t [] [] 0 s.rest) ∧
     (cc c s.fcw = true → s.segmented = true →
       t.pc = pcValue s.cfg.variant (segAddr (s.readWord .stack (s.pointer 14))
         (s.readWord .stack (s.addrAdd (wordAlign (s.pointer 14)) 2))) ∧
       t.reg 15 = s.reg 15 + 4 ∧ Frame s t [15] [] 0 s.rest) ∧
     (cc c s.fcw = true → s.segmented = false →
       t.pc = pcValue s.cfg.variant (s.nonsegAddr (s.readWord .stack (s.pointer 15))) ∧
       t.reg 15 = s.reg 15 + 2 ∧ Frame s t [15] [] 0 s.rest))

/-- R370, R373, R375: an unconditional RET after a CALL comes back to the instruction after the CALL, with the stack
pointer as it was, where the bus adaptor answers no read of the stack with a placeholder. -/
def Obligations.ReturnUndoesCall : Prop :=
  ∀ (s : State) (dst : MemOp), dst.wf s.segmented = true → dst.pairs s.segmented = true →
    (∀ g ∈ s.guards, g.access ≠ .read .stack) →
    ∃ t u, exec (.call dst) s = .next t ∧ exec (.ret 8) t = .next u ∧
      u.pc = pcValue s.cfg.variant (s.pcAfter dst.extWords) ∧ ∀ n, u.reg n = s.reg n

/-- R378, R526, R527: SC, the extended opcodes and the undefined ones latch SYSCALL, EPU and TRAP and do nothing else:
`pc` stays after the opcode word. -/
def Obligations.TrapInstructionsOnlyLatchARequest : Prop :=
  ∀ (s : State) (k : BitVec 8) (w : Word),
    let latches := fun (i : Instr) (c : Cause) => ∃ t, exec i s = .next t ∧ t.pc = s.pc ∧
      t.isPending c = true ∧ Frame s t [] [] 0 (s.restRaised c)
    latches (.sc k) .syscall ∧ latches (.undefined w) .trap ∧
    latches (.ext0E k) .epu ∧ latches (.ext0F k) .epu ∧ latches (.ext4E k) .epu ∧
    latches (.ext4F k) .epu ∧ latches (.ext8E k) .epu ∧ latches (.ext8F k) .epu

/-! ### Block instructions (45_block.md) -/

/-- R400 to R408: one iteration of a block load moves one element, steps both pointers and counts down; the repeating
forms run again while the counter is not 0. -/
def Obligations.BlockLoadsMoveOneElement : Prop :=
  ∀ (s : State) (d r c : Reg), ptrReg s.segmented d = true → ptrReg s.segmented r = true →
    let word := fun (i : Instr) (k : Word) (repeats : Bool) => ∃ t, exec i s = .next t ∧
      t.bare.readWord .data (s.pointer d) = s.readWord .data (s.pointer r) ∧ Counted s t [d, r] k c ∧
      RunsAgain s t (repeats && t.reg c != 0) ∧ StoreFrame s t (s.wordCells (s.pointer d)) 0x0010 s.rest
    let byte := fun (i : Instr) (k : Word) (repeats : Bool) => ∃ t, exec i s = .next t ∧
      t.bare.readByte .data (s.pointer d) = s.readByte .data (s.pointer r) ∧ Counted s t [d, r] k c ∧
      RunsAgain s t (repeats && t.reg c != 0) ∧ StoreFrame s t (s.byteCells (s.pointer d)) 0x0010 s.rest
    word (.ldi d r c) 2 false ∧ word (.ldir d r c) 2 true ∧
    word (.ldd d r c) (-2) false ∧ word (.lddr d r c) (-2) true ∧
    byte (.ldib d r c) 1 false ∧ byte (.ldirb d r c) 1 true ∧
    byte (.lddb d r c) (-1) false ∧ byte (.lddrb d r c) (-1) true

/-- R400, R409 to R424, R433: one iteration of a block compare compares a register, or the element at the first pointer,
with the element at the source pointer: Z tells whether the condition holds of the difference, C and S are free, and the
repeating forms run again until it does or the counter is 0. A register is read before the pointer and the counter
change (log 18). -/
def Obligations.BlockComparesTestTheCondition : Prop :=
  (∀ (s : State) (d r c : Reg) (cond : CondCode), ptrReg s.segmented r = true →
     let ends := fun (t : State) (k : Word) (repeats : Bool) => Counted s t [r] k c ∧
       RunsAgain s t (repeats && !flagZ t.fcw && t.reg c != 0) ∧ StoreFrame s t [] flagsCZSP s.restDrawn
     let word := fun (i : Instr) (k : Word) (repeats : Bool) => ∃ t, exec i s = .next t ∧
       (∃ f, SubFlags (s.reg d) (s.readWord .data (s.pointer r)) false f ∧ flagZ t.fcw = cc cond f) ∧
       ends t k repeats
     let byte := fun (i : Instr) (k : Word) (repeats : Bool) => ∃ t, exec i s = .next t ∧
       (∃ f, SubFlags (s.byteReg d) (s.readByte .data (s.pointer r)) false f ∧ flagZ t.fcw = cc cond f) ∧
       ends t k repeats
     word (.cpi d r c cond) 2 false ∧ word (.cpir d r c cond) 2 true ∧
     word (.cpd d r c cond) (-2) false ∧ word (.cpdr d r c cond) (-2) true ∧
     byte (.cpib d r c cond) 1 false ∧ byte (.cpirb d r c cond) 1 true ∧
     byte (.cpdb d r c cond) (-1) false ∧ byte (.cpdrb d r c cond) (-1) true) ∧
  (∀ (s : State) (d r c : Reg) (cond : CondCode), ptrReg s.segmented d = true → ptrReg s.segmented r = true →
     let ends := fun (t : State) (k : Word) (repeats : Bool) => Counted s t [d, r] k c ∧
       RunsAgain s t (repeats && !flagZ t.fcw && t.reg c != 0) ∧ StoreFrame s t [] flagsCZSP s.restDrawn
     let word := fun (i : Instr) (k : Word) (repeats : Bool) => ∃ t, exec i s = .next t ∧
       (∃ f, SubFlags (s.readWord .data (s.pointer d)) (s.readWord .data (s.pointer r)) false f ∧
         flagZ t.fcw = cc cond f) ∧ ends t k repeats
     let byte := fun (i : Instr) (k : Word) (repeats : Bool) => ∃ t, exec i s = .next t ∧
       (∃ f, SubFlags (s.readByte .data (s.pointer d)) (s.readByte .data (s.pointer r)) false f ∧
         flagZ t.fcw = cc cond f) ∧ ends t k repeats
     word (.cpsi d r c cond) 2 false ∧ word (.cpsir d r c cond) 2 true ∧
     word (.cpsd d r c cond) (-2) false ∧ word (.cpsdr d r c cond) (-2) true ∧
     byte (.cpsib d r c cond) 1 false ∧ byte (.cpsirb d r c cond) 1 true ∧
     byte (.cpsdb d r c cond) (-1) false ∧ byte (.cpsdrb d r c cond) (-1) true)

/-- R400, R425 to R428, R434: one iteration of a translate replaces the byte at the string pointer by its entry in the
table. R429 to R432: one iteration of a translate and test puts the entry in RH1, before the pointer and the counter
change, and sets Z by it; the repeating forms run again while it is 0 and the counter is not. -/
def Obligations.TranslatesUseTheTable : Prop :=
  (∀ (s : State) (d r c : Reg), ptrReg s.segmented d = true → ptrReg s.segmented r = true →
     let entry := s.addrAdd (s.pointer r) (BitVec.ofNat 16 (s.readByte .data (s.pointer d)).toNat)
     let translates := fun (i : Instr) (k : Word) (repeats : Bool) => ∃ t, exec i s = .next t ∧
       t.bare.readByte .data (s.pointer d) = s.readByte .data entry ∧ Counted s t [d] k c ∧
       RunsAgain s t (repeats && t.reg c != 0) ∧
       StoreFrame s t (s.byteCells (s.pointer d)) flagsZP s.restDrawn
     translates (.trib d r c) 1 false ∧ translates (.trirb d r c) 1 true ∧
     translates (.trdb d r c) (-1) false ∧ translates (.trdrb d r c) (-1) true) ∧
  (∀ (s : State) (p q c : Reg), ptrReg s.segmented p = true → ptrReg s.segmented q = true →
     let x := s.readByte .data
       (s.addrAdd (s.pointer q) (BitVec.ofNat 16 (s.readByte .data (s.pointer p)).toNat))
     let tests := fun (i : Instr) (k : Word) (repeats : Bool) => ∃ t, exec i s = .next t ∧
       flagZ t.fcw = decide (x = 0) ∧
       Counted (s.setReg 1 (x ++ (s.reg 1).extractLsb' 0 8)) t [p] k c ∧
       RunsAgain s t (repeats && decide (x = 0) && t.reg c != 0) ∧ StoreFrame s t [] flagsZP s.rest
     tests (.trtib p q c) 1 false ∧ tests (.trtirb p q c) 1 true ∧
     tests (.trtdb p q c) (-1) false ∧ tests (.trtdrb p q c) (-1) true)

/-! ### Input and output (46_io.md) -/

/-- R440 to R448: in system mode an input or output makes one transaction on the I/O bus, in the mode of the
instruction, and sets no flag; what the bus answers is free (log 5). -/
def Obligations.PortTransfersMakeOneTransaction : Prop :=
  ∀ (s : State) (r : Reg), s.system = true →
    let logged := fun (e : IoEvent) => { s.rest with ioLog := e :: s.ioLog }
    let inW := fun (i : Instr) (port : Word) (mode : IoMode) => ∃ t v, exec i s = .next t ∧ t.reg r = v ∧
      WordFrame s t (.reg r) 0 (logged (.readWord port mode v))
    let inB := fun (i : Instr) (port : Word) (mode : IoMode) => ∃ t v, exec i s = .next t ∧ t.byteReg r = v ∧
      ByteFrame s t (.reg r) 0 (logged (.readByte port mode v))
    let outs := fun (i : Instr) (e : IoEvent) => ∃ t, exec i s = .next t ∧ Frame s t [] [] 0 (logged e)
    (∀ p, inW (.inw r p) (p.port s) .normal) ∧ (∀ p, inB (.inb r p) (p.port s) .normal) ∧
    (∀ p, inW (.sin r p) p .special) ∧ (∀ p, inB (.sinb r p) p .special) ∧
    (∀ p, outs (.outw p r) (.writeWord (p.port s) (s.reg r) .normal)) ∧
    (∀ p, outs (.outb p r) (.writeByte (p.port s) (s.byteReg r) .normal)) ∧
    (∀ p, outs (.sout p r) (.writeWord p (s.reg r) .special)) ∧
    (∀ p, outs (.soutb p r) (.writeByte p (s.byteReg r) .special))

/-- R440, R449 to R456, R465 to R472: one iteration of a block input stores one value from the port at the memory
pointer, steps the pointer and counts down; the port register is not changed by that. Z is free. -/
def Obligations.BlockInputsStoreOneElement : Prop :=
  ∀ (s : State) (d r c : Reg), s.system = true → ptrReg s.segmented d = true →
    let word := fun (i : Instr) (mode : IoMode) (k : Word) (repeats : Bool) => ∃ t v, exec i s = .next t ∧
      t.bare.readWord .data (s.pointer d) = v ∧ Counted s t [d] k c ∧ RunsAgain s t (repeats && t.reg c != 0) ∧
      StoreFrame s t (s.wordCells (s.pointer d)) flagsZP
        { s.restDrawn with ioLog := .readWord (s.reg r) mode v :: s.ioLog }
    let byte := fun (i : Instr) (mode : IoMode) (k : Word) (repeats : Bool) => ∃ t v, exec i s = .next t ∧
      t.bare.readByte .data (s.pointer d) = v ∧ Counted s t [d] k c ∧ RunsAgain s t (repeats && t.reg c != 0) ∧
      StoreFrame s t (s.byteCells (s.pointer d)) flagsZP
        { s.restDrawn with ioLog := .readByte (s.reg r) mode v :: s.ioLog }
    word (.ini d r c) .normal 2 false ∧ word (.inir d r c) .normal 2 true ∧
    word (.ind d r c) .normal (-2) false ∧ word (.indr d r c) .normal (-2) true ∧
    byte (.inib d r c) .normal 1 false ∧ byte (.inirb d r c) .normal 1 true ∧
    byte (.indb d r c) .normal (-1) false ∧ byte (.indrb d r c) .normal (-1) true ∧
    word (.sini d r c) .special 2 false ∧ word (.sinir d r c) .special 2 true ∧
    word (.sind d r c) .special (-2) false ∧ word (.sindr d r c) .special (-2) true ∧
    byte (.sinib d r c) .special 1 false ∧ byte (.sinirb d r c) .special 1 true ∧
    byte (.sindb d r c) .special (-1) false ∧ byte (.sindrb d r c) .special (-1) true

/-- R440, R457 to R464, R473 to R480: one iteration of a block output writes the element at the memory pointer to the
port, steps the pointer and counts down; memory is only read. Z is free. -/
def Obligations.BlockOutputsSendOneElement : Prop :=
  ∀ (s : State) (d r c : Reg), s.system = true → ptrReg s.segmented r = true →
    let sends := fun (i : Instr) (e : IoEvent) (k : Word) (repeats : Bool) => ∃ t, exec i s = .next t ∧
      Counted s t [r] k c ∧ RunsAgain s t (repeats && t.reg c != 0) ∧
      StoreFrame s t [] flagsZP { s.restDrawn with ioLog := e :: s.ioLog }
    let word := fun (i : Instr) (mode : IoMode) (k : Word) (repeats : Bool) =>
      sends i (.writeWord (s.reg d) (s.readWord .data (s.pointer r)) mode) k repeats
    let byte := fun (i : Instr) (mode : IoMode) (k : Word) (repeats : Bool) =>
      sends i (.writeByte (s.reg d) (s.readByte .data (s.pointer r)) mode) k repeats
    word (.outi d r c) .normal 2 false ∧ word (.otir d r c) .normal 2 true ∧
    word (.outd d r c) .normal (-2) false ∧ word (.otdr d r c) .normal (-2) true ∧
    byte (.outib d r c) .normal 1 false ∧ byte (.otirb d r c) .normal 1 true ∧
    byte (.outdb d r c) .normal (-1) false ∧ byte (.otdrb d r c) .normal (-1) true ∧
    word (.souti d r c) .special 2 false ∧ word (.sotir d r c) .special 2 true ∧
    word (.soutd d r c) .special (-2) false ∧ word (.sotdr d r c) .special (-2) true ∧
    byte (.soutib d r c) .special 1 false ∧ byte (.sotirb d r c) .special 1 true ∧
    byte (.soutdb d r c) .special (-1) false ∧ byte (.sotdrb d r c) .special (-1) true

/-! ### System instructions (47_system.md) -/

/-- R162, R500, R502: in system mode LDCTL reads each control register into a word register. R46, R56, R57, R501: it
writes each whole, but for FCW, which takes the bits of `FCW_MASK` and exchanges the stack pointers when S_N changes.
A reserved code moves nothing, and requests TRAP if `LDCTL_RESERVED` says so. -/
def Obligations.ControlRegistersReadAndWrite : Prop :=
  (∀ (s : State) (d : Reg), s.system = true →
     let reads := fun (k : BitVec 3) (v : Word) => ∃ t, exec (.ldctlRead d k) s = .next t ∧ t.reg d = v ∧
       WordFrame s t (.reg d) 0 s.rest
     let reserved := fun (k : BitVec 3) => ∃ t, exec (.ldctlRead d k) s = .next t ∧
       Frame s t [] [] 0 (if s.cfg.ldctlReserved = .trap then s.restRaised .trap else s.rest)
     reads 2 s.fcw ∧ reads 3 s.refresh ∧ reads 4 s.psapSeg ∧ reads 5 s.psapOff ∧ reads 6 s.nspSeg ∧
     reads 7 s.nspOff ∧ reserved 0 ∧ reserved 1) ∧
  (∀ (s : State) (r : Reg), s.system = true →
     let writes := fun (k : BitVec 3) (rest : Rest) => ∃ t, exec (.ldctlWrite r k) s = .next t ∧
       Frame s t [] [] 0 rest
     (∃ t, exec (.ldctlWrite r 2) s = .next t ∧ Switched s t (s.reg r) ∧
       StoreFrame s t [] 0xFFFF (s.restSwitched t)) ∧
     writes 3 { s.rest with refresh := s.reg r } ∧ writes 4 { s.rest with psapSeg := s.reg r } ∧
     writes 5 { s.rest with psapOff := s.reg r } ∧ writes 6 { s.rest with nspSeg := s.reg r } ∧
     writes 7 { s.rest with nspOff := s.reg r } ∧
     (∀ k, k = 0 ∨ k = 1 → writes k (if s.cfg.ldctlReserved = .trap then s.restRaised .trap else s.rest)))

/-- R505, R506: LDCTLB moves the low byte of FCW to and from a byte register; bits 1 and 0 of FCW stay 0 and its high
byte is kept. R161, R507 to R509: SETFLG, RESFLG and COMFLG set, clear and invert the flags their mask names: bits 3
to 0 of the mask are C, Z, S and PV. All run in both modes. -/
def Obligations.FlagInstructionsWriteFlagsOnly : Prop :=
  (∀ (s : State) (r : Reg),
     (∃ t, exec (.ldctlbRead r) s = .next t ∧ t.byteReg r = lowByte s.fcw ∧ ByteFrame s t (.reg r) 0 s.rest) ∧
     (∃ t, exec (.ldctlbWrite r) s = .next t ∧
       (∀ j, j < 8 → t.fcw.getLsbD j = (decide (2 ≤ j) && (s.byteReg r).getLsbD j)) ∧
       Frame s t [] [] 0x00FF s.rest)) ∧
  (∀ (s : State) (m : BitVec 4),
     let flags := fun (i : Instr) (f : Bool → Bool → Bool) => ∃ t, exec i s = .next t ∧
       flagC t.fcw = f (m.getLsbD 3) (flagC s.fcw) ∧ flagZ t.fcw = f (m.getLsbD 2) (flagZ s.fcw) ∧
       flagS t.fcw = f (m.getLsbD 1) (flagS s.fcw) ∧ flagPV t.fcw = f (m.getLsbD 0) (flagPV s.fcw) ∧
       Frame s t [] [] flagsCZSP s.rest
     flags (.setflg m) (fun b f => b || f) ∧ flags (.resflg m) (fun b f => !b && f) ∧
     flags (.comflg m) (fun b f => b ^^ f))

/-- R510 to R512: in system mode EI and DI set and clear the interrupt enables whose operand bit is 0, which of them
each bit names being `EIDI_BIT_MAP`'s choice. R513, R515, R520 to R523: NOP does nothing in either mode; in system
mode HALT sets the halt latch, MSET and MRES the multi-micro flag, MBIT copies that flag to S, and MREQ leaves its
register, the flag, Z and S free. -/
def Obligations.EnablesHaltAndMultiMicro : Prop :=
  (∀ (s : State) (a b : BitVec 1), s.system = true →
     let vi := if s.cfg.eidiBitMap = .doc then b else a
     let nvi := if s.cfg.eidiBitMap = .doc then a else b
     let enables := fun (i : Instr) (on : Bool) => ∃ t, exec i s = .next t ∧
       fcwVie t.fcw = (if vi = 0 then on else fcwVie s.fcw) ∧
       fcwNvie t.fcw = (if nvi = 0 then on else fcwNvie s.fcw) ∧ Frame s t [] [] 0x1800 s.rest
     enables (.ei a b) true ∧ enables (.di a b) false) ∧
  (∀ (s : State),
     (∃ t, exec .nop s = .next t ∧ t.pc = s.pc ∧ Frame s t [] [] 0 s.rest) ∧
     (s.system = true →
       (∃ t, exec .halt s = .next t ∧ t.pc = s.pc ∧ Frame s t [] [] 0 { s.rest with halt := true }) ∧
       (∃ t, exec .mset s = .next t ∧ Frame s t [] [] 0 { s.rest with mi := true }) ∧
       (∃ t, exec .mres s = .next t ∧ Frame s t [] [] 0 { s.rest with mi := false }) ∧
       (∃ t, exec .mbit s = .next t ∧ flagS t.fcw = s.mi ∧ Frame s t [] [] 0x0020 s.rest) ∧
       (∀ d, ∃ t, exec (.mreq d) s = .next t ∧ Frame s t [d] [] flagsZS { s.restDrawn with mi := t.mi })))

/-- R503: in system mode LDPS reads FCW and PC from memory, in the layout of the mode in force, and installs both. R514,
R630: IRET pops the tag, FCW and PC from the stack of the mode in force, four bytes of PC on the Z8001 and two on the
Z8002, and installs FCW and PC. -/
def Obligations.ProgramStatusLoadsAndReturns : Prop :=
  (∀ (s : State) (m : MemOp), s.system = true → m.pairs s.segmented = true →
     let place := fun (k : Word) => s.readWord .data (s.addrAdd (m.ea s) k)
     ∃ t, exec (.ldps m) s = .next t ∧ StoreFrame s t [] 0xFFFF (s.restSwitched t) ∧
       (s.segmented = true → Switched s t (place 2) ∧ t.pc = pcValue s.cfg.variant (segAddr (place 4) (place 6))) ∧
       (s.segmented = false → Switched s t (s.readWord .data (m.ea s)) ∧
         t.pc = pcValue s.cfg.variant (s.nonsegAddr (place 2)))) ∧
  (∀ (s : State), s.system = true →
     let p := s.spReg
     let up := fun (k : Word) => s.stepPointer p k
     let size : Word := if s.cfg.variant = .z8001 then 8 else 6
     ∃ t, exec .iret s = .next t ∧ Switched (up size) t (s.readWord .stack ((up 2).pointer p)) ∧
       StoreFrame s t [] 0xFFFF (s.restSwitched t) ∧
       t.pc = pcValue s.cfg.variant
         (if s.cfg.variant = .z8001 then
           segAddr ((s.readLong .stack ((up 4).pointer p)).extractLsb' 16 16)
             ((s.readLong .stack ((up 4).pointer p)).extractLsb' 0 16)
          else 0#7 ++ s.readWord .stack ((up 4).pointer p)))

/-! ### All instructions -/

/-- R131, R152, R530: an instruction whose register fields are legal, and which is not a privileged one in normal
mode, completes with its own effect: it fetches all its words, keeps the opcode word in slot 0, and changes no
parameter. One that is no branch, call, return, repeating form or program-status load leaves `pc` after its last word.
R104, R608: it completes whatever the bus adaptor does, and SEGTRAP is requested exactly if the adaptor does so during
one of its accesses, which `Instr.accesses` lists with their roles (R91); that CLR, CLRB and a byte store make no read
access is log 31, the model's reading of R226 against R102 and R151. -/
def Obligations.EveryInstructionCompletes : Prop :=
  (∀ (i : Instr) (s : State), i.Runs s →
     ∃ t, exec i s = .next t ∧ SlotsFilled s t i.extWords ∧ t.cfg = s.cfg ∧ t.ppc = s.ppc) ∧
  (∀ (i : Instr) (s : State), i.Runs s → i.branches = false →
     ∃ t, exec i s = .next t ∧ t.pc = s.pcAfter i.extWords) ∧
  (∀ (i : Instr) (s : State), i.Runs s →
     ∃ t, exec i s = .next t ∧ t.guards = s.guards ∧ SegtrapIs s t (i.accesses s))

/-- R15, R35, R36, R137, R138, R530: an instruction stops the model exactly when a register field names no pair or quad
where it must, unless it is a privileged one in normal mode, which traps first (log 16); no instruction is refused. -/
def Obligations.OnlyBadRegisterFieldsFault : Prop :=
  ∀ (i : Instr) (s : State),
    (∀ r, exec i s ≠ .refused r) ∧
    ((∃ f, exec i s = .fault f) ↔
      i.pairsLegal s.segmented = false ∧ (i.privileged = true → s.system = true))

/-- R530, R640: a privileged instruction in normal mode fetches nothing, latches TRAP and does nothing else. That TRAP
comes before the fault of R137 too, for a register field that names no pair, is the model's reading (log 16). -/
def Obligations.PrivilegedInstructionsTrapInNormalMode : Prop :=
  ∀ (i : Instr) (s : State), i.privileged = true → s.system = false → exec i s = .next (s.raise .trap)

/-- R48, R530, R640, R645: normal mode is confined. Whatever instruction runs there, the high byte of FCW (the mode, the
segmented mode and the interrupt enables), PSAP, the other mode's stack pointer, REFRESH, the multi-micro flag, the halt
latch and the I/O bus are as they were; a request other than EPU, TRAP and SYSCALL is neither made nor dropped, but for
the SEGTRAP that a bus adaptor makes (R608). -/
def Obligations.NormalModeIsConfined : Prop :=
  ∀ (i : Instr) (s t : State), s.system = false → exec i s = .next t →
    t.fcw &&& 0xFF00 = s.fcw &&& 0xFF00 ∧
    t.rest = { s.rest with irqReq := t.irqReq, draws := t.draws } ∧
    t.irqReq = { s.irqReq with
      epu := t.irqReq.epu, trap := t.irqReq.trap, syscall := t.irqReq.syscall, segtrap := t.irqReq.segtrap } ∧
    (s.irqReq.segtrap = true → t.irqReq.segtrap = true) ∧
    (s.guards = [] → t.irqReq.segtrap = s.irqReq.segtrap)

/-! ### Encoding (30_encoding.md) -/

/-- R130 to R151: the bytes of an encoded well-formed instruction, whatever follows them, decode to that instruction, in
either mode, and the decoder takes exactly its words. -/
def Obligations.DecodingUndoesEncoding : Prop :=
  ∀ (seg : Bool) (i : Instr) (tail : List Byte), i.wf seg = true →
    decodeBytes seg ((encode i).flatMap bytesOfWord ++ tail) = .ok (i, tail)

/-- R134, R135, R163: words written out from spec/opcode_table.json, one or more in each family, and what they decode
to. -/
def Obligations.SampleWordsDecodeAsTheTableSays : Prop :=
  decodeWords false [0x8121] = .add 1 (.reg 2) ∧
  decodeWords false [0x2101, 0x1234] = .ldIM 1 0x1234 ∧
  decodeWords true [0x6101, 0x8500, 0x1234] = .ldMem 1 (.mem (.da (.long 5 0x1234))) ∧
  decodeWords true [0x6101, 0x0512] = .ldMem 1 (.mem (.da (.short 5 0x12))) ∧
  decodeWords false [0x8721] = .and 1 (.reg 2) ∧
  decodeWords false [0xB319, 0x0001] = .sla 1 1 ∧
  decodeWords false [0x5F10, 0x3000] = .call (.x 1 (.nonseg 0x3000)) ∧
  decodeWords false [0xBB21, 0x0310] = .ldir 1 2 3 ∧
  decodeWords false [0x3B12, 0x0320] = .otir 2 1 3 ∧
  decodeWords false [0x7D1A] = .ldctlWrite 1 2 ∧
  decodeWords false [0x3600] = .undefined 0x3600

/-! ### The step, exceptions and reset (60_exceptions.md, 70_reset_and_hazards.md) -/

/-- R710: where service leaves the machine not halted, the step runs the instruction that the bytes at `pc` decode to:
it executes in the state whose slot 0 holds the opcode word, whose `pc` is past it and `ppc` at it, whose REFRESH has
counted and to which the cost is charged; after it no slot is valid. R104, R608: the words are those that the bus
adaptor answers, and the fetch of the opcode word requests SEGTRAP exactly if the adaptor does so. R54: the count
advances the low byte of REFRESH, modulo 256, when bit 15 is set, and only then. -/
def Obligations.StepRunsTheDecodedInstruction : Prop :=
  (∀ (s : State) (i : Instr) (tail : List Byte),
     let u := s.service
     u.halt = false → u.pc.getLsbD 0 = false → decodeBytes u.segmented u.codeBytes = .ok (i, tail) →
     ∃ b, step s = (match exec i b with
         | .next t => .next { t with opValid := 0 }
         | .fault f => .fault f
         | .refused r => .refused r) ∧
       b.op[0] = u.readWord .program u.pc ∧ b.opValid = 1 ∧ b.pc = u.addrAdd u.pc 2 ∧
       SegtrapIs u b (accesses (.read .program) (u.wordCells u.pc)) ∧
       Frame u b [] [] 0 { u.rest with
         ppc := u.pc, refresh := refreshed u.refresh, icount := u.icount - Config.cycles i.entry,
         totalCycles := u.totalCycles + Config.cycles i.entry }) ∧
  (∀ (s : State), s.fetchOpcode.refresh.extractLsb' 8 8 = s.refresh.extractLsb' 8 8 ∧
     (lowByte s.fetchOpcode.refresh).toNat =
       if s.refresh.getLsbD 15 then ((lowByte s.refresh).toNat + 1) % 256 else (lowByte s.refresh).toNat)

/-- R600, R606, R620: service takes the pending cause of the highest priority: nothing happens when none is pending,
and what is taken is pending while every cause before it in the order of R600 is not. NVI and VI are pending while
their line is asserted and their enable is 1; the other causes while they are latched. -/
def Obligations.ServiceTakesTheHighestPriority : Prop :=
  ∀ (s : State),
    let order : List Cause := [.reset, .epu, .trap, .syscall, .segtrap, .nmi, .nvi, .vi]
    (s.isPending .nvi = true ↔ s.nviLine = true ∧ s.fcw.getLsbD 11 = true) ∧
    (s.isPending .vi = true ↔ s.viLine = true ∧ s.fcw.getLsbD 12 = true) ∧
    (s.isPending .reset = s.irqReq.reset ∧ s.isPending .epu = s.irqReq.epu ∧ s.isPending .trap = s.irqReq.trap ∧
      s.isPending .syscall = s.irqReq.syscall ∧ s.isPending .segtrap = s.irqReq.segtrap ∧
      s.isPending .nmi = s.irqReq.nmi) ∧
    ((∀ c, s.isPending c = false) → s.service = s) ∧
    ∀ c, s.isPending c = true → (∀ c' ∈ order.takeWhile (· != c), s.isPending c' = false) →
      s.service = (if c = .reset then s.resetService else (s.enter c).charge (serviceCost s.cfg c))

/-- R612, R613, R624, R626: taking an exception. The frame goes on the system stack, which a switch from normal mode
exchanges in: PC (with its segment word on the Z8001), the old FCW, the tag. FCW and PC come from the cause's entry in
the program status area; the latched request and the halt latch are cleared; nothing else changes. The pushes use the
stack role and the reads of the entry the program role (R91): SEGTRAP, unless latched before, is requested exactly if
the bus adaptor does so during one of these accesses (R608; the adaptor's form is the model's, log 28), and a request
during the entry of SEGTRAP is cleared with it. -/
def Obligations.ExceptionEntryBuildsTheFrame : Prop :=
  ∀ (s : State) (c : Cause), c ≠ .reset →
    let long := s.cfg.variant = .z8001
    let u := s.changeFcw (s.fcw ||| if long then 0xC000 else 0x4000)
    let p := u.spReg
    let top := fun (k : Word) => (u.stepPointer p (-k)).pointer p
    let t := s.enter c
    let size : Word := if long then 8 else 6
    let pcCells := if long then s.longCells (top 4) else s.wordCells (top 2)
    let psaCells := fun (o : Word) => s.wordCells (s.addrAdd s.psapBase o)
    t.bare.readWord .stack (top size) = (if c = .epu ∨ c = .trap ∨ c = .syscall then s.op[0] else s.irqVec) ∧
    t.bare.readWord .stack (top (size - 2)) = s.fcw ∧
    (long → t.bare.readLong .stack (top (size - 4)) = segWord s.pc ++ offset s.pc) ∧
    (¬ long → t.bare.readWord .stack (top (size - 4)) = offset s.pc) ∧
    Switched (u.stepPointer p (-size)) t (t.vectorFcw c) ∧ t.pc = pcValue s.cfg.variant (t.vectorPc c) ∧
    StoreFrame s t
      (s.wordCells (top size) ++ s.wordCells (top (size - 2)) ++ pcCells) 0xFFFF
      { s.restSwitched t with irqReq := s.irqReq.clear c, halt := false } ∧
    (c ≠ .segtrap → SegtrapIs s t
      (accesses (.write .stack) (pcCells ++ s.wordCells (top (size - 2)) ++ s.wordCells (top size)) ++
        accesses (.read .program) (psaCells (s.psaFcwOffset c) ++ psaCells (s.psaPcOffset c) ++
          if long then psaCells (s.psaPcOffset c + 2) else []))) ∧
    (c = .segtrap → t.irqReq.segtrap = false)

/-- R611 to R613: where the program status area keeps each cause's FCW and PC, as offsets from PSAP: the table of R612,
cause by cause, and how the words there make the FCW and PC of the entry. The vector of VI is the low byte of
`irq_vec`. -/
def Obligations.ProgramStatusAreaLayout : Prop :=
  ∀ (s : State),
    let v := s.irqVec.toNat % 256
    let entry := fun (c : Cause) (fcw pc : Nat) => (s.psaFcwOffset c).toNat = fcw ∧ (s.psaPcOffset c).toNat = pc
    (s.cfg.variant = .z8002 →
      entry .epu 0x04 0x06 ∧ entry .trap 0x08 0x0A ∧ entry .syscall 0x0C 0x0E ∧ entry .segtrap 0x10 0x12 ∧
      entry .nmi 0x14 0x16 ∧ entry .nvi 0x18 0x1A ∧ entry .vi 0x1C (0x1E + 2 * v) ∧
      (∀ c, s.vectorFcw c = s.readWord .program (0#7 ++ (s.psapOff + s.psaFcwOffset c))) ∧
      (∀ c, s.vectorPc c = 0#7 ++ s.readWord .program (0#7 ++ (s.psapOff + s.psaPcOffset c)))) ∧
    (s.cfg.variant = .z8001 →
      entry .epu 0x0A 0x0C ∧ entry .trap 0x12 0x14 ∧ entry .syscall 0x1A 0x1C ∧ entry .segtrap 0x22 0x24 ∧
      entry .nmi 0x2A 0x2C ∧ entry .nvi 0x32 0x34 ∧ entry .vi 0x3A (0x3C + 4 * v) ∧
      (s.psaPcOffset .epu + 2).toNat = 0x0E ∧ (s.psaPcOffset .trap + 2).toNat = 0x16 ∧
      (s.psaPcOffset .syscall + 2).toNat = 0x1E ∧ (s.psaPcOffset .segtrap + 2).toNat = 0x26 ∧
      (s.psaPcOffset .nmi + 2).toNat = 0x2E ∧ (s.psaPcOffset .nvi + 2).toNat = 0x36 ∧
      (s.psaPcOffset .vi + 2).toNat = 0x3E + 4 * v ∧
      (∀ c, s.vectorFcw c = s.readWord .program
        (s.psapSeg.extractLsb' 8 7 ++ (s.psapOff + s.psaFcwOffset c))) ∧
      (∀ c, s.vectorPc c =
        (s.readWord .program (s.psapSeg.extractLsb' 8 7 ++ (s.psapOff + s.psaPcOffset c))).extractLsb' 8 7 ++
          s.readWord .program (s.psapSeg.extractLsb' 8 7 ++ (s.psapOff + (s.psaPcOffset c + 2)))))

/-- R514, R624, R630: IRET, run at once in the handler, undoes an entry whose handler runs in system mode (and segmented
mode on the Z8001): PC, FCW, every register and the other mode's stack pointer are as before the exception, where the
bus adaptor answers no read of the stack with a placeholder. -/
def Obligations.ReturnUndoesEntry : Prop :=
  ∀ (s : State) (c : Cause), s.Inv → c ≠ .reset → (∀ g ∈ s.guards, g.access ≠ .read .stack) →
    (s.enter c).system = true → (s.cfg.variant = .z8001 → (s.enter c).segmented = true) →
    ∃ t, exec .iret (s.enter c) = .next t ∧ t.pc = s.pc ∧ t.fcw = s.fcw ∧ (∀ n, t.reg n = s.reg n) ∧
      t.nspSeg = s.nspSeg ∧ t.nspOff = s.nspOff

/-- R605: a write of the NMI line latches NMI exactly on a rising edge, and keeps every other request; what is latched
is pending, whatever FCW is. -/
def Obligations.NmiIsLatchedOnARisingEdge : Prop :=
  ∀ (s : State) (v : Bool), (s.writeNmi v).nmiState = v ∧ (s.writeNmi v).nmiPrev = s.nmiState ∧
    (s.writeNmi v).isPending .nmi = (s.writeNmi v).irqReq.nmi ∧
    (s.writeNmi v).irqReq = { s.irqReq with nmi := s.irqReq.nmi || (v && !s.nmiState) }

/-- R65, R700: the values that the spec gives for the state after `reset()`, in `State.reset` and after any later call.
R702, R704: the service of RESET, which comes before any other, loads FCW and PC from the absolute addresses 2 to 7,
pushes nothing, exchanges no stacks, drops every latched request and ends a halt. -/
def Obligations.ResetAndItsService : Prop :=
  (let fresh := fun (t : State) (nmi : Bool) =>
     t.irqReq = ⟨true, false, false, false, false, false⟩ ∧ t.psapSeg = 0 ∧ t.psapOff = 0 ∧ t.refresh = 0 ∧
     t.halt = false ∧ t.mi = false ∧ t.opValid = 0 ∧ t.totalCycles = 0 ∧ t.nmiPrev = nmi
   fresh State.reset State.reset.nmiState ∧ ∀ (s : State), fresh s.hostReset s.nmiState) ∧
  (∀ (s : State), s.irqReq.reset = true →
     let t := s.service
     t.fcw = s.readWord .program 2 &&& (if s.cfg.variant = .z8001 then 0xF8FC else 0x78FC) ∧
     t.pc = pcValue s.cfg.variant (match s.cfg.variant with
       | .z8001 => segAddr (s.readWord .program 4) (s.readWord .program 6)
       | .z8002 => 0#7 ++ s.readWord .program 4) ∧
     Frame s t [] [] 0xFFFF { s.rest with irqReq := ⟨false, false, false, false, false, false⟩, halt := false })

/-- R712, R720: a halted step with nothing pending spends what is left of the budget and changes nothing else, and no
access is made; `run` only sets the budget when the machine is halted with nothing pending, and in any machine when the
budget it is given is not above 0. -/
def Obligations.HaltedMachineWaits : Prop :=
  (∀ (s : State), s.halt = true → (∀ c, s.isPending c = false) →
     (∃ t, step s = .next t ∧ t.pc = s.pc ∧ t.op = s.op ∧ t.opValid = s.opValid ∧ SegtrapIs s t [] ∧
       Frame s t [] [] 0 { s.rest with totalCycles := s.totalCycles + s.icount.toNat, icount := 0 }) ∧
     (∀ fuel k, State.run fuel k s = some (.next { s with icount := k }))) ∧
  (∀ (s : State) (fuel : Nat) (k : Int), k ≤ 0 → State.run fuel k s = some (.next { s with icount := k }))

/-! ### Memory and register views (10_state.md, 20_memory.md) -/

/-- R92 to R98: a word is two bytes, the high one at the even address; a byte store leaves the other byte of its word; a
long is two words, high word first, the second in the same segment. R104, R608: a read of a byte for which the bus
adaptor has a placeholder answers it, and every other read answers what memory holds; the adaptor requests SEGTRAP
during an access exactly if it has an entry for one of the bytes. -/
def Obligations.MemoryIsBigEndian : Prop :=
  ∀ (s : State) (q r : Role) (a : Addr),
    s.readWord r a = s.readByte r (wordAlign a) ++ s.readByte r (wordAlign a ||| 1#23) ∧
    s.readLong r a = s.readWord r a ++ s.readWord r (s.addrAdd (wordAlign a) 2) ∧
    (∀ v, (s.writeByte q a v).bare.readWord r a = if a.getLsbD 0 then s.bare.readByte r (wordAlign a) ++ v
      else v ++ s.bare.readByte r (wordAlign a ||| 1#23)) ∧
    (∀ v, (s.writeWord q a v).bare.readWord r a = v) ∧ (∀ v, (s.writeLong q a v).bare.readLong r a = v) ∧
    ((∀ g ∈ s.guards, g.access = .read r → g.addr ≠ s.physical a) →
      s.readByte r a = s.mem.read (s.physical a)) ∧
    (∀ g ∈ s.guards, g.access = .read r → g.addr = s.physical a →
      (∀ h ∈ s.guards, h.access = .read r → h.addr = s.physical a → h.value = g.value) →
      s.readByte r a = g.value) ∧
    (∀ k ns, (s.access k ns).irqReq.segtrap = true ↔
      s.irqReq.segtrap = true ∨ ∃ n ∈ ns, ∃ g ∈ s.guards, g.access = k ∧ g.addr = n)

/-- R30 to R36: the byte, word, long and quad views are views of the same sixteen words: a write through one is seen
through the others, and changes no other part. A byte register is the half of the word register that `BYTE_REG_MAP`
says, and always by the pair order for the host; the host reads and writes long registers at even indices. -/
def Obligations.RegisterViewsNeverDrift : Prop :=
  ∀ (s : State),
    let bytes := fun (p : ByteRegMap) (get : Reg → Byte) (set : Reg → Byte → State) => ∀ (k : Reg) (v : Byte),
      let n : Reg := if p = .pair then BitVec.ofNat 4 (k.toNat / 2) else BitVec.ofNat 4 (k.toNat % 8)
      let high := if p = .pair then k.toNat % 2 = 0 else k.toNat < 8
      get k = (if high then (s.reg n).extractLsb' 8 8 else (s.reg n).extractLsb' 0 8) ∧
      (set k v).reg n = (if high then v ++ (s.reg n).extractLsb' 0 8 else (s.reg n).extractLsb' 8 8 ++ v) ∧
      ∀ m, m ≠ n → (set k v).reg m = s.reg m
    bytes s.cfg.byteRegMap s.byteReg s.setByteReg ∧ bytes .pair s.hostByteReg s.hostSetByteReg ∧
    (∀ k v, (s.setByteReg k v).byteReg k = v ∧ ∀ j, j ≠ k → (s.setByteReg k v).byteReg j = s.byteReg j) ∧
    (∀ n, s.longReg n = s.reg n ++ s.reg (n + 1) ∧
      s.quadReg n = (s.reg n ++ s.reg (n + 1)) ++ (s.reg (n + 2) ++ s.reg (n + 3))) ∧
    (∀ n v, (s.setLongReg n v).reg n = v.extractLsb' 16 16 ∧ (s.setLongReg n v).reg (n + 1) = v.extractLsb' 0 16 ∧
      (s.setLongReg n v).longReg n = v ∧ ∀ m, m ≠ n → m ≠ n + 1 → (s.setLongReg n v).reg m = s.reg m) ∧
    (∀ n v, quadReg n = true → (s.setQuadReg n v).quadReg n = v ∧
      (s.setQuadReg n v).longReg n = v.extractLsb' 32 32 ∧ (s.setQuadReg n v).longReg (n + 2) = v.extractLsb' 0 32 ∧
      ∀ m, m ∉ [n, n + 1, n + 2, n + 3] → (s.setQuadReg n v).reg m = s.reg m) ∧
    (∀ n v, evenReg n = true → s.hostLongReg n = some (s.longReg n) ∧ s.hostSetLongReg n v = some (s.setLongReg n v))

/-- R143 to R150: the effective address of each addressing mode, in segmented mode on the Z8001, in its non-segmented
mode, where every address is in the segment of `pc` (R97, R144), and on the Z8002. A relative address (R148) is the
displacement added to the address after the displacement word, in the segment of `pc` in every mode. -/
def Obligations.EffectiveAddressesOfEachMode : Prop :=
  ∀ (s : State) (n x : Reg) (seg : BitVec 7) (off : Word) (b : Byte),
    (s.segmented = true →
      (MemOp.ir n).ea s = (s.reg n).extractLsb' 8 7 ++ s.reg (n + 1) ∧
      (MemOp.da (.long seg off)).ea s = seg ++ off ∧
      (MemOp.da (.short seg b)).ea s = seg ++ (0#8 ++ b) ∧
      (MemOp.x n (.long seg off)).ea s = seg ++ (off + s.reg n) ∧
      (MemOp.x n (.short seg b)).ea s = seg ++ ((0#8 ++ b) + s.reg n) ∧
      (LdMem.ba n off).ea s = (s.reg n).extractLsb' 8 7 ++ (s.reg (n + 1) + off) ∧
      (LdMem.bx n x).ea s = (s.reg n).extractLsb' 8 7 ++ (s.reg (n + 1) + s.reg x)) ∧
    (s.cfg.variant = .z8002 →
      (MemOp.ir n).ea s = 0#7 ++ s.reg n ∧
      (MemOp.da (.nonseg off)).ea s = 0#7 ++ off ∧
      (MemOp.x n (.nonseg off)).ea s = 0#7 ++ (off + s.reg n) ∧
      (LdMem.ba n off).ea s = 0#7 ++ (s.reg n + off) ∧
      (LdMem.bx n x).ea s = 0#7 ++ (s.reg n + s.reg x)) ∧
    (s.cfg.variant = .z8001 → s.segmented = false →
      let here := s.pc.extractLsb' 16 7
      (MemOp.ir n).ea s = here ++ s.reg n ∧
      (MemOp.da (.nonseg off)).ea s = here ++ off ∧
      (MemOp.x n (.nonseg off)).ea s = here ++ (off + s.reg n) ∧
      (LdMem.ba n off).ea s = here ++ (s.reg n + off) ∧
      (LdMem.bx n x).ea s = here ++ (s.reg n + s.reg x)) ∧
    (s.fetchExt 1).relative off = s.addrAdd s.pc (2 + off) ∧
    s.addrAdd s.pc (2 + off) =
      (if s.cfg.variant = .z8001 then s.pc.extractLsb' 16 7 else 0#7) ++ (s.pc.extractLsb' 0 16 + 2 + off)

/-! ### The invariant -/

/-- Every step keeps the invariant of `State.Inv`, from every state that has it. -/
def Obligations.StepKeepsTheInvariant : Prop :=
  ∀ (s t : State), s.Inv → step s = .next t → t.Inv ∧ t.cfg = s.cfg

/-- The state after reset has the invariant, with any parameters. -/
def Obligations.ResetHasTheInvariant : Prop :=
  ∀ (p : Params), State.Inv { State.reset with cfg := p }

/-- Whatever the host does between steps, every state the machine can be in has the invariant. -/
def Obligations.ReachableStatesHaveTheInvariant : Prop :=
  ∀ (p : Params) (s : State), Reachable p s → s.Inv ∧ s.cfg = p
end

