-- ==== Sys2Proof/Laws/Bits.lean ====
section
/-!
SUPPORT. Small facts of bit vectors at the widths of R12: values put together from parts and taken apart again.
-/

namespace Sys2Proof

theorem toNat_append {n m k : Nat} (x : BitVec n) (y : BitVec m) (h : n + m = k) :
    (h ▸ (x ++ y) : BitVec k).toNat = x.toNat * 2 ^ m + y.toNat := by
  subst h
  rw [BitVec.toNat_append, ← Nat.shiftLeft_add_eq_or_of_lt y.isLt, Nat.shiftLeft_eq]

theorem append_7_16_toNat (x : BitVec 7) (y : BitVec 16) : (x ++ y : Addr).toNat = x.toNat * 65536 + y.toNat :=
  toNat_append x y rfl

theorem append_8_8_toNat (x y : Byte) : (x ++ y : Word).toNat = x.toNat * 256 + y.toNat :=
  toNat_append x y rfl

theorem append_16_16_toNat (x y : Word) : (x ++ y : Long).toNat = x.toNat * 65536 + y.toNat :=
  toNat_append x y rfl

theorem append_32_32_toNat (x y : Long) : (x ++ y : Quad).toNat = x.toNat * 4294967296 + y.toNat :=
  toNat_append x y rfl

@[simp] theorem append_high_8 (x y : Byte) : (x ++ y : Word).extractLsb' 8 8 = x := by
  apply BitVec.eq_of_toNat_eq
  rw [BitVec.extractLsb'_toNat, append_8_8_toNat, Nat.shiftRight_eq_div_pow]
  omega

@[simp] theorem append_low_8 (x y : Byte) : (x ++ y : Word).extractLsb' 0 8 = y := by
  apply BitVec.eq_of_toNat_eq
  rw [BitVec.extractLsb'_toNat, append_8_8_toNat, Nat.shiftRight_eq_div_pow]
  omega

@[simp] theorem append_high_16 (x y : Word) : (x ++ y : Long).extractLsb' 16 16 = x := by
  apply BitVec.eq_of_toNat_eq
  rw [BitVec.extractLsb'_toNat, append_16_16_toNat, Nat.shiftRight_eq_div_pow]
  omega

@[simp] theorem append_low_16 (x y : Word) : (x ++ y : Long).extractLsb' 0 16 = y := by
  apply BitVec.eq_of_toNat_eq
  rw [BitVec.extractLsb'_toNat, append_16_16_toNat, Nat.shiftRight_eq_div_pow]
  omega

@[simp] theorem append_high_32 (x y : Long) : (x ++ y : Quad).extractLsb' 32 32 = x := by
  apply BitVec.eq_of_toNat_eq
  rw [BitVec.extractLsb'_toNat, append_32_32_toNat, Nat.shiftRight_eq_div_pow]
  omega

@[simp] theorem append_low_32 (x y : Long) : (x ++ y : Quad).extractLsb' 0 32 = y := by
  apply BitVec.eq_of_toNat_eq
  rw [BitVec.extractLsb'_toNat, append_32_32_toNat, Nat.shiftRight_eq_div_pow]
  omega

@[simp] theorem append_seg (x : BitVec 7) (y : Word) : (x ++ y : Addr).extractLsb' 16 7 = x := by
  apply BitVec.eq_of_toNat_eq
  rw [BitVec.extractLsb'_toNat, append_7_16_toNat, Nat.shiftRight_eq_div_pow]
  omega

@[simp] theorem append_offset (x : BitVec 7) (y : Word) : (x ++ y : Addr).extractLsb' 0 16 = y := by
  apply BitVec.eq_of_toNat_eq
  rw [BitVec.extractLsb'_toNat, append_7_16_toNat, Nat.shiftRight_eq_div_pow]
  omega

@[simp] theorem halves_8 (w : Word) : (w.extractLsb' 8 8 ++ w.extractLsb' 0 8 : Word) = w := by
  apply BitVec.eq_of_toNat_eq
  rw [append_8_8_toNat, BitVec.extractLsb'_toNat, BitVec.extractLsb'_toNat, Nat.shiftRight_eq_div_pow]
  omega

@[simp] theorem halves_16 (w : Long) : (w.extractLsb' 16 16 ++ w.extractLsb' 0 16 : Long) = w := by
  apply BitVec.eq_of_toNat_eq
  rw [append_16_16_toNat, BitVec.extractLsb'_toNat, BitVec.extractLsb'_toNat, Nat.shiftRight_eq_div_pow]
  omega

@[simp] theorem halves_32 (w : Quad) : (w.extractLsb' 32 32 ++ w.extractLsb' 0 32 : Quad) = w := by
  apply BitVec.eq_of_toNat_eq
  rw [append_32_32_toNat, BitVec.extractLsb'_toNat, BitVec.extractLsb'_toNat, Nat.shiftRight_eq_div_pow]
  omega

@[simp] theorem halves_addr (a : Addr) : (a.extractLsb' 16 7 ++ a.extractLsb' 0 16 : Addr) = a := by
  apply BitVec.eq_of_toNat_eq
  rw [append_7_16_toNat, BitVec.extractLsb'_toNat, BitVec.extractLsb'_toNat, Nat.shiftRight_eq_div_pow]
  omega

end Sys2Proof
end

