-- ==== Sys2Proof/Laws/State.lean ====
section
/-!
SUPPORT. What each named update leaves alone: one lemma for each update and field, and for `State.rest`. A lemma
`State.<update>_<field>` says what `<field>` is after `<update>`.
-/

namespace Sys2Proof.Machine

open Sys2Proof

variable (s : State)

/-! ### `setReg` -/

@[simp] theorem State.setReg_cfg (n : Reg) (v : Word) : (s.setReg n v).cfg = s.cfg := rfl
@[simp] theorem State.setReg_pc (n : Reg) (v : Word) : (s.setReg n v).pc = s.pc := rfl
@[simp] theorem State.setReg_ppc (n : Reg) (v : Word) : (s.setReg n v).ppc = s.ppc := rfl
@[simp] theorem State.setReg_fcw (n : Reg) (v : Word) : (s.setReg n v).fcw = s.fcw := rfl
@[simp] theorem State.setReg_psapSeg (n : Reg) (v : Word) : (s.setReg n v).psapSeg = s.psapSeg := rfl
@[simp] theorem State.setReg_psapOff (n : Reg) (v : Word) : (s.setReg n v).psapOff = s.psapOff := rfl
@[simp] theorem State.setReg_nspSeg (n : Reg) (v : Word) : (s.setReg n v).nspSeg = s.nspSeg := rfl
@[simp] theorem State.setReg_nspOff (n : Reg) (v : Word) : (s.setReg n v).nspOff = s.nspOff := rfl
@[simp] theorem State.setReg_refresh (n : Reg) (v : Word) : (s.setReg n v).refresh = s.refresh := rfl
@[simp] theorem State.setReg_irqReq (n : Reg) (v : Word) : (s.setReg n v).irqReq = s.irqReq := rfl
@[simp] theorem State.setReg_nmiState (n : Reg) (v : Word) : (s.setReg n v).nmiState = s.nmiState := rfl
@[simp] theorem State.setReg_nmiPrev (n : Reg) (v : Word) : (s.setReg n v).nmiPrev = s.nmiPrev := rfl
@[simp] theorem State.setReg_nviLine (n : Reg) (v : Word) : (s.setReg n v).nviLine = s.nviLine := rfl
@[simp] theorem State.setReg_viLine (n : Reg) (v : Word) : (s.setReg n v).viLine = s.viLine := rfl
@[simp] theorem State.setReg_irqVec (n : Reg) (v : Word) : (s.setReg n v).irqVec = s.irqVec := rfl
@[simp] theorem State.setReg_mi (n : Reg) (v : Word) : (s.setReg n v).mi = s.mi := rfl
@[simp] theorem State.setReg_halt (n : Reg) (v : Word) : (s.setReg n v).halt = s.halt := rfl
@[simp] theorem State.setReg_op (n : Reg) (v : Word) : (s.setReg n v).op = s.op := rfl
@[simp] theorem State.setReg_opValid (n : Reg) (v : Word) : (s.setReg n v).opValid = s.opValid := rfl
@[simp] theorem State.setReg_totalCycles (n : Reg) (v : Word) : (s.setReg n v).totalCycles = s.totalCycles := rfl
@[simp] theorem State.setReg_icount (n : Reg) (v : Word) : (s.setReg n v).icount = s.icount := rfl
@[simp] theorem State.setReg_mem (n : Reg) (v : Word) : (s.setReg n v).mem = s.mem := rfl
@[simp] theorem State.setReg_guards (n : Reg) (v : Word) : (s.setReg n v).guards = s.guards := rfl
@[simp] theorem State.setReg_ioLog (n : Reg) (v : Word) : (s.setReg n v).ioLog = s.ioLog := rfl
@[simp] theorem State.setReg_draws (n : Reg) (v : Word) : (s.setReg n v).draws = s.draws := rfl
@[simp] theorem State.setReg_rest (n : Reg) (v : Word) : (s.setReg n v).rest = s.rest := rfl

/-! ### `setByteRegAt` -/

@[simp] theorem State.setByteRegAt_cfg (p : ByteRegMap) (k : Reg) (v : Byte) : (s.setByteRegAt p k v).cfg = s.cfg :=
    by simp only [State.setByteRegAt, State.setReg_cfg]
@[simp] theorem State.setByteRegAt_pc (p : ByteRegMap) (k : Reg) (v : Byte) : (s.setByteRegAt p k v).pc = s.pc :=
    by simp only [State.setByteRegAt, State.setReg_pc]
@[simp] theorem State.setByteRegAt_ppc (p : ByteRegMap) (k : Reg) (v : Byte) : (s.setByteRegAt p k v).ppc = s.ppc :=
    by simp only [State.setByteRegAt, State.setReg_ppc]
@[simp] theorem State.setByteRegAt_fcw (p : ByteRegMap) (k : Reg) (v : Byte) : (s.setByteRegAt p k v).fcw = s.fcw :=
    by simp only [State.setByteRegAt, State.setReg_fcw]
@[simp] theorem State.setByteRegAt_psapSeg (p : ByteRegMap) (k : Reg) (v : Byte) :
    (s.setByteRegAt p k v).psapSeg = s.psapSeg := by simp only [State.setByteRegAt, State.setReg_psapSeg]
@[simp] theorem State.setByteRegAt_psapOff (p : ByteRegMap) (k : Reg) (v : Byte) :
    (s.setByteRegAt p k v).psapOff = s.psapOff := by simp only [State.setByteRegAt, State.setReg_psapOff]
@[simp] theorem State.setByteRegAt_nspSeg (p : ByteRegMap) (k : Reg) (v : Byte) :
    (s.setByteRegAt p k v).nspSeg = s.nspSeg := by simp only [State.setByteRegAt, State.setReg_nspSeg]
@[simp] theorem State.setByteRegAt_nspOff (p : ByteRegMap) (k : Reg) (v : Byte) :
    (s.setByteRegAt p k v).nspOff = s.nspOff := by simp only [State.setByteRegAt, State.setReg_nspOff]
@[simp] theorem State.setByteRegAt_refresh (p : ByteRegMap) (k : Reg) (v : Byte) :
    (s.setByteRegAt p k v).refresh = s.refresh := by simp only [State.setByteRegAt, State.setReg_refresh]
@[simp] theorem State.setByteRegAt_irqReq (p : ByteRegMap) (k : Reg) (v : Byte) :
    (s.setByteRegAt p k v).irqReq = s.irqReq := by simp only [State.setByteRegAt, State.setReg_irqReq]
@[simp] theorem State.setByteRegAt_nmiState (p : ByteRegMap) (k : Reg) (v : Byte) :
    (s.setByteRegAt p k v).nmiState = s.nmiState := by simp only [State.setByteRegAt, State.setReg_nmiState]
@[simp] theorem State.setByteRegAt_nmiPrev (p : ByteRegMap) (k : Reg) (v : Byte) :
    (s.setByteRegAt p k v).nmiPrev = s.nmiPrev := by simp only [State.setByteRegAt, State.setReg_nmiPrev]
@[simp] theorem State.setByteRegAt_nviLine (p : ByteRegMap) (k : Reg) (v : Byte) :
    (s.setByteRegAt p k v).nviLine = s.nviLine := by simp only [State.setByteRegAt, State.setReg_nviLine]
@[simp] theorem State.setByteRegAt_viLine (p : ByteRegMap) (k : Reg) (v : Byte) :
    (s.setByteRegAt p k v).viLine = s.viLine := by simp only [State.setByteRegAt, State.setReg_viLine]
@[simp] theorem State.setByteRegAt_irqVec (p : ByteRegMap) (k : Reg) (v : Byte) :
    (s.setByteRegAt p k v).irqVec = s.irqVec := by simp only [State.setByteRegAt, State.setReg_irqVec]
@[simp] theorem State.setByteRegAt_mi (p : ByteRegMap) (k : Reg) (v : Byte) : (s.setByteRegAt p k v).mi = s.mi :=
    by simp only [State.setByteRegAt, State.setReg_mi]
@[simp] theorem State.setByteRegAt_halt (p : ByteRegMap) (k : Reg) (v : Byte) :
    (s.setByteRegAt p k v).halt = s.halt := by simp only [State.setByteRegAt, State.setReg_halt]
@[simp] theorem State.setByteRegAt_op (p : ByteRegMap) (k : Reg) (v : Byte) : (s.setByteRegAt p k v).op = s.op :=
    by simp only [State.setByteRegAt, State.setReg_op]
@[simp] theorem State.setByteRegAt_opValid (p : ByteRegMap) (k : Reg) (v : Byte) :
    (s.setByteRegAt p k v).opValid = s.opValid := by simp only [State.setByteRegAt, State.setReg_opValid]
@[simp] theorem State.setByteRegAt_totalCycles (p : ByteRegMap) (k : Reg) (v : Byte) :
    (s.setByteRegAt p k v).totalCycles = s.totalCycles := by simp only [State.setByteRegAt, State.setReg_totalCycles]
@[simp] theorem State.setByteRegAt_icount (p : ByteRegMap) (k : Reg) (v : Byte) :
    (s.setByteRegAt p k v).icount = s.icount := by simp only [State.setByteRegAt, State.setReg_icount]
@[simp] theorem State.setByteRegAt_mem (p : ByteRegMap) (k : Reg) (v : Byte) : (s.setByteRegAt p k v).mem = s.mem :=
    by simp only [State.setByteRegAt, State.setReg_mem]
@[simp] theorem State.setByteRegAt_guards (p : ByteRegMap) (k : Reg) (v : Byte) :
    (s.setByteRegAt p k v).guards = s.guards := by simp only [State.setByteRegAt, State.setReg_guards]
@[simp] theorem State.setByteRegAt_ioLog (p : ByteRegMap) (k : Reg) (v : Byte) :
    (s.setByteRegAt p k v).ioLog = s.ioLog := by simp only [State.setByteRegAt, State.setReg_ioLog]
@[simp] theorem State.setByteRegAt_draws (p : ByteRegMap) (k : Reg) (v : Byte) :
    (s.setByteRegAt p k v).draws = s.draws := by simp only [State.setByteRegAt, State.setReg_draws]
@[simp] theorem State.setByteRegAt_rest (p : ByteRegMap) (k : Reg) (v : Byte) :
    (s.setByteRegAt p k v).rest = s.rest := by simp only [State.setByteRegAt, State.setReg_rest]

/-! ### `setByteReg` -/

@[simp] theorem State.setByteReg_cfg (k : Reg) (v : Byte) : (s.setByteReg k v).cfg = s.cfg :=
    by simp only [State.setByteReg, State.setByteRegAt_cfg]
@[simp] theorem State.setByteReg_pc (k : Reg) (v : Byte) : (s.setByteReg k v).pc = s.pc :=
    by simp only [State.setByteReg, State.setByteRegAt_pc]
@[simp] theorem State.setByteReg_ppc (k : Reg) (v : Byte) : (s.setByteReg k v).ppc = s.ppc :=
    by simp only [State.setByteReg, State.setByteRegAt_ppc]
@[simp] theorem State.setByteReg_fcw (k : Reg) (v : Byte) : (s.setByteReg k v).fcw = s.fcw :=
    by simp only [State.setByteReg, State.setByteRegAt_fcw]
@[simp] theorem State.setByteReg_psapSeg (k : Reg) (v : Byte) : (s.setByteReg k v).psapSeg = s.psapSeg :=
    by simp only [State.setByteReg, State.setByteRegAt_psapSeg]
@[simp] theorem State.setByteReg_psapOff (k : Reg) (v : Byte) : (s.setByteReg k v).psapOff = s.psapOff :=
    by simp only [State.setByteReg, State.setByteRegAt_psapOff]
@[simp] theorem State.setByteReg_nspSeg (k : Reg) (v : Byte) : (s.setByteReg k v).nspSeg = s.nspSeg :=
    by simp only [State.setByteReg, State.setByteRegAt_nspSeg]
@[simp] theorem State.setByteReg_nspOff (k : Reg) (v : Byte) : (s.setByteReg k v).nspOff = s.nspOff :=
    by simp only [State.setByteReg, State.setByteRegAt_nspOff]
@[simp] theorem State.setByteReg_refresh (k : Reg) (v : Byte) : (s.setByteReg k v).refresh = s.refresh :=
    by simp only [State.setByteReg, State.setByteRegAt_refresh]
@[simp] theorem State.setByteReg_irqReq (k : Reg) (v : Byte) : (s.setByteReg k v).irqReq = s.irqReq :=
    by simp only [State.setByteReg, State.setByteRegAt_irqReq]
@[simp] theorem State.setByteReg_nmiState (k : Reg) (v : Byte) : (s.setByteReg k v).nmiState = s.nmiState :=
    by simp only [State.setByteReg, State.setByteRegAt_nmiState]
@[simp] theorem State.setByteReg_nmiPrev (k : Reg) (v : Byte) : (s.setByteReg k v).nmiPrev = s.nmiPrev :=
    by simp only [State.setByteReg, State.setByteRegAt_nmiPrev]
@[simp] theorem State.setByteReg_nviLine (k : Reg) (v : Byte) : (s.setByteReg k v).nviLine = s.nviLine :=
    by simp only [State.setByteReg, State.setByteRegAt_nviLine]
@[simp] theorem State.setByteReg_viLine (k : Reg) (v : Byte) : (s.setByteReg k v).viLine = s.viLine :=
    by simp only [State.setByteReg, State.setByteRegAt_viLine]
@[simp] theorem State.setByteReg_irqVec (k : Reg) (v : Byte) : (s.setByteReg k v).irqVec = s.irqVec :=
    by simp only [State.setByteReg, State.setByteRegAt_irqVec]
@[simp] theorem State.setByteReg_mi (k : Reg) (v : Byte) : (s.setByteReg k v).mi = s.mi :=
    by simp only [State.setByteReg, State.setByteRegAt_mi]
@[simp] theorem State.setByteReg_halt (k : Reg) (v : Byte) : (s.setByteReg k v).halt = s.halt :=
    by simp only [State.setByteReg, State.setByteRegAt_halt]
@[simp] theorem State.setByteReg_op (k : Reg) (v : Byte) : (s.setByteReg k v).op = s.op :=
    by simp only [State.setByteReg, State.setByteRegAt_op]
@[simp] theorem State.setByteReg_opValid (k : Reg) (v : Byte) : (s.setByteReg k v).opValid = s.opValid :=
    by simp only [State.setByteReg, State.setByteRegAt_opValid]
@[simp] theorem State.setByteReg_totalCycles (k : Reg) (v : Byte) : (s.setByteReg k v).totalCycles = s.totalCycles :=
    by simp only [State.setByteReg, State.setByteRegAt_totalCycles]
@[simp] theorem State.setByteReg_icount (k : Reg) (v : Byte) : (s.setByteReg k v).icount = s.icount :=
    by simp only [State.setByteReg, State.setByteRegAt_icount]
@[simp] theorem State.setByteReg_mem (k : Reg) (v : Byte) : (s.setByteReg k v).mem = s.mem :=
    by simp only [State.setByteReg, State.setByteRegAt_mem]
@[simp] theorem State.setByteReg_guards (k : Reg) (v : Byte) : (s.setByteReg k v).guards = s.guards :=
    by simp only [State.setByteReg, State.setByteRegAt_guards]
@[simp] theorem State.setByteReg_ioLog (k : Reg) (v : Byte) : (s.setByteReg k v).ioLog = s.ioLog :=
    by simp only [State.setByteReg, State.setByteRegAt_ioLog]
@[simp] theorem State.setByteReg_draws (k : Reg) (v : Byte) : (s.setByteReg k v).draws = s.draws :=
    by simp only [State.setByteReg, State.setByteRegAt_draws]
@[simp] theorem State.setByteReg_rest (k : Reg) (v : Byte) : (s.setByteReg k v).rest = s.rest :=
    by simp only [State.setByteReg, State.setByteRegAt_rest]

/-! ### `setLongReg` -/

@[simp] theorem State.setLongReg_cfg (n : Reg) (v : Long) : (s.setLongReg n v).cfg = s.cfg :=
    by simp only [State.setLongReg, State.setReg_cfg]
@[simp] theorem State.setLongReg_pc (n : Reg) (v : Long) : (s.setLongReg n v).pc = s.pc :=
    by simp only [State.setLongReg, State.setReg_pc]
@[simp] theorem State.setLongReg_ppc (n : Reg) (v : Long) : (s.setLongReg n v).ppc = s.ppc :=
    by simp only [State.setLongReg, State.setReg_ppc]
@[simp] theorem State.setLongReg_fcw (n : Reg) (v : Long) : (s.setLongReg n v).fcw = s.fcw :=
    by simp only [State.setLongReg, State.setReg_fcw]
@[simp] theorem State.setLongReg_psapSeg (n : Reg) (v : Long) : (s.setLongReg n v).psapSeg = s.psapSeg :=
    by simp only [State.setLongReg, State.setReg_psapSeg]
@[simp] theorem State.setLongReg_psapOff (n : Reg) (v : Long) : (s.setLongReg n v).psapOff = s.psapOff :=
    by simp only [State.setLongReg, State.setReg_psapOff]
@[simp] theorem State.setLongReg_nspSeg (n : Reg) (v : Long) : (s.setLongReg n v).nspSeg = s.nspSeg :=
    by simp only [State.setLongReg, State.setReg_nspSeg]
@[simp] theorem State.setLongReg_nspOff (n : Reg) (v : Long) : (s.setLongReg n v).nspOff = s.nspOff :=
    by simp only [State.setLongReg, State.setReg_nspOff]
@[simp] theorem State.setLongReg_refresh (n : Reg) (v : Long) : (s.setLongReg n v).refresh = s.refresh :=
    by simp only [State.setLongReg, State.setReg_refresh]
@[simp] theorem State.setLongReg_irqReq (n : Reg) (v : Long) : (s.setLongReg n v).irqReq = s.irqReq :=
    by simp only [State.setLongReg, State.setReg_irqReq]
@[simp] theorem State.setLongReg_nmiState (n : Reg) (v : Long) : (s.setLongReg n v).nmiState = s.nmiState :=
    by simp only [State.setLongReg, State.setReg_nmiState]
@[simp] theorem State.setLongReg_nmiPrev (n : Reg) (v : Long) : (s.setLongReg n v).nmiPrev = s.nmiPrev :=
    by simp only [State.setLongReg, State.setReg_nmiPrev]
@[simp] theorem State.setLongReg_nviLine (n : Reg) (v : Long) : (s.setLongReg n v).nviLine = s.nviLine :=
    by simp only [State.setLongReg, State.setReg_nviLine]
@[simp] theorem State.setLongReg_viLine (n : Reg) (v : Long) : (s.setLongReg n v).viLine = s.viLine :=
    by simp only [State.setLongReg, State.setReg_viLine]
@[simp] theorem State.setLongReg_irqVec (n : Reg) (v : Long) : (s.setLongReg n v).irqVec = s.irqVec :=
    by simp only [State.setLongReg, State.setReg_irqVec]
@[simp] theorem State.setLongReg_mi (n : Reg) (v : Long) : (s.setLongReg n v).mi = s.mi :=
    by simp only [State.setLongReg, State.setReg_mi]
@[simp] theorem State.setLongReg_halt (n : Reg) (v : Long) : (s.setLongReg n v).halt = s.halt :=
    by simp only [State.setLongReg, State.setReg_halt]
@[simp] theorem State.setLongReg_op (n : Reg) (v : Long) : (s.setLongReg n v).op = s.op :=
    by simp only [State.setLongReg, State.setReg_op]
@[simp] theorem State.setLongReg_opValid (n : Reg) (v : Long) : (s.setLongReg n v).opValid = s.opValid :=
    by simp only [State.setLongReg, State.setReg_opValid]
@[simp] theorem State.setLongReg_totalCycles (n : Reg) (v : Long) : (s.setLongReg n v).totalCycles = s.totalCycles :=
    by simp only [State.setLongReg, State.setReg_totalCycles]
@[simp] theorem State.setLongReg_icount (n : Reg) (v : Long) : (s.setLongReg n v).icount = s.icount :=
    by simp only [State.setLongReg, State.setReg_icount]
@[simp] theorem State.setLongReg_mem (n : Reg) (v : Long) : (s.setLongReg n v).mem = s.mem :=
    by simp only [State.setLongReg, State.setReg_mem]
@[simp] theorem State.setLongReg_guards (n : Reg) (v : Long) : (s.setLongReg n v).guards = s.guards :=
    by simp only [State.setLongReg, State.setReg_guards]
@[simp] theorem State.setLongReg_ioLog (n : Reg) (v : Long) : (s.setLongReg n v).ioLog = s.ioLog :=
    by simp only [State.setLongReg, State.setReg_ioLog]
@[simp] theorem State.setLongReg_draws (n : Reg) (v : Long) : (s.setLongReg n v).draws = s.draws :=
    by simp only [State.setLongReg, State.setReg_draws]
@[simp] theorem State.setLongReg_rest (n : Reg) (v : Long) : (s.setLongReg n v).rest = s.rest :=
    by simp only [State.setLongReg, State.setReg_rest]

/-! ### `setQuadReg` -/

@[simp] theorem State.setQuadReg_cfg (n : Reg) (v : Quad) : (s.setQuadReg n v).cfg = s.cfg :=
    by simp only [State.setQuadReg, State.setLongReg_cfg]
@[simp] theorem State.setQuadReg_pc (n : Reg) (v : Quad) : (s.setQuadReg n v).pc = s.pc :=
    by simp only [State.setQuadReg, State.setLongReg_pc]
@[simp] theorem State.setQuadReg_ppc (n : Reg) (v : Quad) : (s.setQuadReg n v).ppc = s.ppc :=
    by simp only [State.setQuadReg, State.setLongReg_ppc]
@[simp] theorem State.setQuadReg_fcw (n : Reg) (v : Quad) : (s.setQuadReg n v).fcw = s.fcw :=
    by simp only [State.setQuadReg, State.setLongReg_fcw]
@[simp] theorem State.setQuadReg_psapSeg (n : Reg) (v : Quad) : (s.setQuadReg n v).psapSeg = s.psapSeg :=
    by simp only [State.setQuadReg, State.setLongReg_psapSeg]
@[simp] theorem State.setQuadReg_psapOff (n : Reg) (v : Quad) : (s.setQuadReg n v).psapOff = s.psapOff :=
    by simp only [State.setQuadReg, State.setLongReg_psapOff]
@[simp] theorem State.setQuadReg_nspSeg (n : Reg) (v : Quad) : (s.setQuadReg n v).nspSeg = s.nspSeg :=
    by simp only [State.setQuadReg, State.setLongReg_nspSeg]
@[simp] theorem State.setQuadReg_nspOff (n : Reg) (v : Quad) : (s.setQuadReg n v).nspOff = s.nspOff :=
    by simp only [State.setQuadReg, State.setLongReg_nspOff]
@[simp] theorem State.setQuadReg_refresh (n : Reg) (v : Quad) : (s.setQuadReg n v).refresh = s.refresh :=
    by simp only [State.setQuadReg, State.setLongReg_refresh]
@[simp] theorem State.setQuadReg_irqReq (n : Reg) (v : Quad) : (s.setQuadReg n v).irqReq = s.irqReq :=
    by simp only [State.setQuadReg, State.setLongReg_irqReq]
@[simp] theorem State.setQuadReg_nmiState (n : Reg) (v : Quad) : (s.setQuadReg n v).nmiState = s.nmiState :=
    by simp only [State.setQuadReg, State.setLongReg_nmiState]
@[simp] theorem State.setQuadReg_nmiPrev (n : Reg) (v : Quad) : (s.setQuadReg n v).nmiPrev = s.nmiPrev :=
    by simp only [State.setQuadReg, State.setLongReg_nmiPrev]
@[simp] theorem State.setQuadReg_nviLine (n : Reg) (v : Quad) : (s.setQuadReg n v).nviLine = s.nviLine :=
    by simp only [State.setQuadReg, State.setLongReg_nviLine]
@[simp] theorem State.setQuadReg_viLine (n : Reg) (v : Quad) : (s.setQuadReg n v).viLine = s.viLine :=
    by simp only [State.setQuadReg, State.setLongReg_viLine]
@[simp] theorem State.setQuadReg_irqVec (n : Reg) (v : Quad) : (s.setQuadReg n v).irqVec = s.irqVec :=
    by simp only [State.setQuadReg, State.setLongReg_irqVec]
@[simp] theorem State.setQuadReg_mi (n : Reg) (v : Quad) : (s.setQuadReg n v).mi = s.mi :=
    by simp only [State.setQuadReg, State.setLongReg_mi]
@[simp] theorem State.setQuadReg_halt (n : Reg) (v : Quad) : (s.setQuadReg n v).halt = s.halt :=
    by simp only [State.setQuadReg, State.setLongReg_halt]
@[simp] theorem State.setQuadReg_op (n : Reg) (v : Quad) : (s.setQuadReg n v).op = s.op :=
    by simp only [State.setQuadReg, State.setLongReg_op]
@[simp] theorem State.setQuadReg_opValid (n : Reg) (v : Quad) : (s.setQuadReg n v).opValid = s.opValid :=
    by simp only [State.setQuadReg, State.setLongReg_opValid]
@[simp] theorem State.setQuadReg_totalCycles (n : Reg) (v : Quad) : (s.setQuadReg n v).totalCycles = s.totalCycles :=
    by simp only [State.setQuadReg, State.setLongReg_totalCycles]
@[simp] theorem State.setQuadReg_icount (n : Reg) (v : Quad) : (s.setQuadReg n v).icount = s.icount :=
    by simp only [State.setQuadReg, State.setLongReg_icount]
@[simp] theorem State.setQuadReg_mem (n : Reg) (v : Quad) : (s.setQuadReg n v).mem = s.mem :=
    by simp only [State.setQuadReg, State.setLongReg_mem]
@[simp] theorem State.setQuadReg_guards (n : Reg) (v : Quad) : (s.setQuadReg n v).guards = s.guards :=
    by simp only [State.setQuadReg, State.setLongReg_guards]
@[simp] theorem State.setQuadReg_ioLog (n : Reg) (v : Quad) : (s.setQuadReg n v).ioLog = s.ioLog :=
    by simp only [State.setQuadReg, State.setLongReg_ioLog]
@[simp] theorem State.setQuadReg_draws (n : Reg) (v : Quad) : (s.setQuadReg n v).draws = s.draws :=
    by simp only [State.setQuadReg, State.setLongReg_draws]
@[simp] theorem State.setQuadReg_rest (n : Reg) (v : Quad) : (s.setQuadReg n v).rest = s.rest :=
    by simp only [State.setQuadReg, State.setLongReg_rest]

/-! ### `stepPointer` -/

@[simp] theorem State.stepPointer_cfg (n : Reg) (k : Word) : (s.stepPointer n k).cfg = s.cfg :=
    by simp only [State.stepPointer, State.setReg_cfg]
@[simp] theorem State.stepPointer_pc (n : Reg) (k : Word) : (s.stepPointer n k).pc = s.pc :=
    by simp only [State.stepPointer, State.setReg_pc]
@[simp] theorem State.stepPointer_ppc (n : Reg) (k : Word) : (s.stepPointer n k).ppc = s.ppc :=
    by simp only [State.stepPointer, State.setReg_ppc]
@[simp] theorem State.stepPointer_fcw (n : Reg) (k : Word) : (s.stepPointer n k).fcw = s.fcw :=
    by simp only [State.stepPointer, State.setReg_fcw]
@[simp] theorem State.stepPointer_psapSeg (n : Reg) (k : Word) : (s.stepPointer n k).psapSeg = s.psapSeg :=
    by simp only [State.stepPointer, State.setReg_psapSeg]
@[simp] theorem State.stepPointer_psapOff (n : Reg) (k : Word) : (s.stepPointer n k).psapOff = s.psapOff :=
    by simp only [State.stepPointer, State.setReg_psapOff]
@[simp] theorem State.stepPointer_nspSeg (n : Reg) (k : Word) : (s.stepPointer n k).nspSeg = s.nspSeg :=
    by simp only [State.stepPointer, State.setReg_nspSeg]
@[simp] theorem State.stepPointer_nspOff (n : Reg) (k : Word) : (s.stepPointer n k).nspOff = s.nspOff :=
    by simp only [State.stepPointer, State.setReg_nspOff]
@[simp] theorem State.stepPointer_refresh (n : Reg) (k : Word) : (s.stepPointer n k).refresh = s.refresh :=
    by simp only [State.stepPointer, State.setReg_refresh]
@[simp] theorem State.stepPointer_irqReq (n : Reg) (k : Word) : (s.stepPointer n k).irqReq = s.irqReq :=
    by simp only [State.stepPointer, State.setReg_irqReq]
@[simp] theorem State.stepPointer_nmiState (n : Reg) (k : Word) : (s.stepPointer n k).nmiState = s.nmiState :=
    by simp only [State.stepPointer, State.setReg_nmiState]
@[simp] theorem State.stepPointer_nmiPrev (n : Reg) (k : Word) : (s.stepPointer n k).nmiPrev = s.nmiPrev :=
    by simp only [State.stepPointer, State.setReg_nmiPrev]
@[simp] theorem State.stepPointer_nviLine (n : Reg) (k : Word) : (s.stepPointer n k).nviLine = s.nviLine :=
    by simp only [State.stepPointer, State.setReg_nviLine]
@[simp] theorem State.stepPointer_viLine (n : Reg) (k : Word) : (s.stepPointer n k).viLine = s.viLine :=
    by simp only [State.stepPointer, State.setReg_viLine]
@[simp] theorem State.stepPointer_irqVec (n : Reg) (k : Word) : (s.stepPointer n k).irqVec = s.irqVec :=
    by simp only [State.stepPointer, State.setReg_irqVec]
@[simp] theorem State.stepPointer_mi (n : Reg) (k : Word) : (s.stepPointer n k).mi = s.mi :=
    by simp only [State.stepPointer, State.setReg_mi]
@[simp] theorem State.stepPointer_halt (n : Reg) (k : Word) : (s.stepPointer n k).halt = s.halt :=
    by simp only [State.stepPointer, State.setReg_halt]
@[simp] theorem State.stepPointer_op (n : Reg) (k : Word) : (s.stepPointer n k).op = s.op :=
    by simp only [State.stepPointer, State.setReg_op]
@[simp] theorem State.stepPointer_opValid (n : Reg) (k : Word) : (s.stepPointer n k).opValid = s.opValid :=
    by simp only [State.stepPointer, State.setReg_opValid]
@[simp] theorem State.stepPointer_totalCycles (n : Reg) (k : Word) :
    (s.stepPointer n k).totalCycles = s.totalCycles := by simp only [State.stepPointer, State.setReg_totalCycles]
@[simp] theorem State.stepPointer_icount (n : Reg) (k : Word) : (s.stepPointer n k).icount = s.icount :=
    by simp only [State.stepPointer, State.setReg_icount]
@[simp] theorem State.stepPointer_mem (n : Reg) (k : Word) : (s.stepPointer n k).mem = s.mem :=
    by simp only [State.stepPointer, State.setReg_mem]
@[simp] theorem State.stepPointer_guards (n : Reg) (k : Word) : (s.stepPointer n k).guards = s.guards :=
    by simp only [State.stepPointer, State.setReg_guards]
@[simp] theorem State.stepPointer_ioLog (n : Reg) (k : Word) : (s.stepPointer n k).ioLog = s.ioLog :=
    by simp only [State.stepPointer, State.setReg_ioLog]
@[simp] theorem State.stepPointer_draws (n : Reg) (k : Word) : (s.stepPointer n k).draws = s.draws :=
    by simp only [State.stepPointer, State.setReg_draws]
@[simp] theorem State.stepPointer_rest (n : Reg) (k : Word) : (s.stepPointer n k).rest = s.rest :=
    by simp only [State.stepPointer, State.setReg_rest]

/-! ### `access` -/

@[simp] theorem State.access_cfg (k : Access) (ns : List Nat) : (s.access k ns).cfg = s.cfg := rfl
@[simp] theorem State.access_regs (k : Access) (ns : List Nat) : (s.access k ns).regs = s.regs := rfl
@[simp] theorem State.access_pc (k : Access) (ns : List Nat) : (s.access k ns).pc = s.pc := rfl
@[simp] theorem State.access_ppc (k : Access) (ns : List Nat) : (s.access k ns).ppc = s.ppc := rfl
@[simp] theorem State.access_fcw (k : Access) (ns : List Nat) : (s.access k ns).fcw = s.fcw := rfl
@[simp] theorem State.access_psapSeg (k : Access) (ns : List Nat) : (s.access k ns).psapSeg = s.psapSeg := rfl
@[simp] theorem State.access_psapOff (k : Access) (ns : List Nat) : (s.access k ns).psapOff = s.psapOff := rfl
@[simp] theorem State.access_nspSeg (k : Access) (ns : List Nat) : (s.access k ns).nspSeg = s.nspSeg := rfl
@[simp] theorem State.access_nspOff (k : Access) (ns : List Nat) : (s.access k ns).nspOff = s.nspOff := rfl
@[simp] theorem State.access_refresh (k : Access) (ns : List Nat) : (s.access k ns).refresh = s.refresh := rfl
@[simp] theorem State.access_nmiState (k : Access) (ns : List Nat) : (s.access k ns).nmiState = s.nmiState := rfl
@[simp] theorem State.access_nmiPrev (k : Access) (ns : List Nat) : (s.access k ns).nmiPrev = s.nmiPrev := rfl
@[simp] theorem State.access_nviLine (k : Access) (ns : List Nat) : (s.access k ns).nviLine = s.nviLine := rfl
@[simp] theorem State.access_viLine (k : Access) (ns : List Nat) : (s.access k ns).viLine = s.viLine := rfl
@[simp] theorem State.access_irqVec (k : Access) (ns : List Nat) : (s.access k ns).irqVec = s.irqVec := rfl
@[simp] theorem State.access_mi (k : Access) (ns : List Nat) : (s.access k ns).mi = s.mi := rfl
@[simp] theorem State.access_halt (k : Access) (ns : List Nat) : (s.access k ns).halt = s.halt := rfl
@[simp] theorem State.access_op (k : Access) (ns : List Nat) : (s.access k ns).op = s.op := rfl
@[simp] theorem State.access_opValid (k : Access) (ns : List Nat) : (s.access k ns).opValid = s.opValid := rfl
@[simp] theorem State.access_totalCycles (k : Access) (ns : List Nat) : (s.access k ns).totalCycles = s.totalCycles :=
    rfl
@[simp] theorem State.access_icount (k : Access) (ns : List Nat) : (s.access k ns).icount = s.icount := rfl
@[simp] theorem State.access_mem (k : Access) (ns : List Nat) : (s.access k ns).mem = s.mem := rfl
@[simp] theorem State.access_guards (k : Access) (ns : List Nat) : (s.access k ns).guards = s.guards := rfl
@[simp] theorem State.access_ioLog (k : Access) (ns : List Nat) : (s.access k ns).ioLog = s.ioLog := rfl
@[simp] theorem State.access_draws (k : Access) (ns : List Nat) : (s.access k ns).draws = s.draws := rfl

/-! ### `touchByte` -/

@[simp] theorem State.touchByte_cfg (r : Role) (a : Addr) : (s.touchByte r a).cfg = s.cfg :=
    by simp only [State.touchByte, State.access_cfg]
@[simp] theorem State.touchByte_regs (r : Role) (a : Addr) : (s.touchByte r a).regs = s.regs :=
    by simp only [State.touchByte, State.access_regs]
@[simp] theorem State.touchByte_pc (r : Role) (a : Addr) : (s.touchByte r a).pc = s.pc :=
    by simp only [State.touchByte, State.access_pc]
@[simp] theorem State.touchByte_ppc (r : Role) (a : Addr) : (s.touchByte r a).ppc = s.ppc :=
    by simp only [State.touchByte, State.access_ppc]
@[simp] theorem State.touchByte_fcw (r : Role) (a : Addr) : (s.touchByte r a).fcw = s.fcw :=
    by simp only [State.touchByte, State.access_fcw]
@[simp] theorem State.touchByte_psapSeg (r : Role) (a : Addr) : (s.touchByte r a).psapSeg = s.psapSeg :=
    by simp only [State.touchByte, State.access_psapSeg]
@[simp] theorem State.touchByte_psapOff (r : Role) (a : Addr) : (s.touchByte r a).psapOff = s.psapOff :=
    by simp only [State.touchByte, State.access_psapOff]
@[simp] theorem State.touchByte_nspSeg (r : Role) (a : Addr) : (s.touchByte r a).nspSeg = s.nspSeg :=
    by simp only [State.touchByte, State.access_nspSeg]
@[simp] theorem State.touchByte_nspOff (r : Role) (a : Addr) : (s.touchByte r a).nspOff = s.nspOff :=
    by simp only [State.touchByte, State.access_nspOff]
@[simp] theorem State.touchByte_refresh (r : Role) (a : Addr) : (s.touchByte r a).refresh = s.refresh :=
    by simp only [State.touchByte, State.access_refresh]
@[simp] theorem State.touchByte_nmiState (r : Role) (a : Addr) : (s.touchByte r a).nmiState = s.nmiState :=
    by simp only [State.touchByte, State.access_nmiState]
@[simp] theorem State.touchByte_nmiPrev (r : Role) (a : Addr) : (s.touchByte r a).nmiPrev = s.nmiPrev :=
    by simp only [State.touchByte, State.access_nmiPrev]
@[simp] theorem State.touchByte_nviLine (r : Role) (a : Addr) : (s.touchByte r a).nviLine = s.nviLine :=
    by simp only [State.touchByte, State.access_nviLine]
@[simp] theorem State.touchByte_viLine (r : Role) (a : Addr) : (s.touchByte r a).viLine = s.viLine :=
    by simp only [State.touchByte, State.access_viLine]
@[simp] theorem State.touchByte_irqVec (r : Role) (a : Addr) : (s.touchByte r a).irqVec = s.irqVec :=
    by simp only [State.touchByte, State.access_irqVec]
@[simp] theorem State.touchByte_mi (r : Role) (a : Addr) : (s.touchByte r a).mi = s.mi :=
    by simp only [State.touchByte, State.access_mi]
@[simp] theorem State.touchByte_halt (r : Role) (a : Addr) : (s.touchByte r a).halt = s.halt :=
    by simp only [State.touchByte, State.access_halt]
@[simp] theorem State.touchByte_op (r : Role) (a : Addr) : (s.touchByte r a).op = s.op :=
    by simp only [State.touchByte, State.access_op]
@[simp] theorem State.touchByte_opValid (r : Role) (a : Addr) : (s.touchByte r a).opValid = s.opValid :=
    by simp only [State.touchByte, State.access_opValid]
@[simp] theorem State.touchByte_totalCycles (r : Role) (a : Addr) : (s.touchByte r a).totalCycles = s.totalCycles :=
    by simp only [State.touchByte, State.access_totalCycles]
@[simp] theorem State.touchByte_icount (r : Role) (a : Addr) : (s.touchByte r a).icount = s.icount :=
    by simp only [State.touchByte, State.access_icount]
@[simp] theorem State.touchByte_mem (r : Role) (a : Addr) : (s.touchByte r a).mem = s.mem :=
    by simp only [State.touchByte, State.access_mem]
@[simp] theorem State.touchByte_guards (r : Role) (a : Addr) : (s.touchByte r a).guards = s.guards :=
    by simp only [State.touchByte, State.access_guards]
@[simp] theorem State.touchByte_ioLog (r : Role) (a : Addr) : (s.touchByte r a).ioLog = s.ioLog :=
    by simp only [State.touchByte, State.access_ioLog]
@[simp] theorem State.touchByte_draws (r : Role) (a : Addr) : (s.touchByte r a).draws = s.draws :=
    by simp only [State.touchByte, State.access_draws]

/-! ### `touchWord` -/

@[simp] theorem State.touchWord_cfg (r : Role) (a : Addr) : (s.touchWord r a).cfg = s.cfg :=
    by simp only [State.touchWord, State.access_cfg]
@[simp] theorem State.touchWord_regs (r : Role) (a : Addr) : (s.touchWord r a).regs = s.regs :=
    by simp only [State.touchWord, State.access_regs]
@[simp] theorem State.touchWord_pc (r : Role) (a : Addr) : (s.touchWord r a).pc = s.pc :=
    by simp only [State.touchWord, State.access_pc]
@[simp] theorem State.touchWord_ppc (r : Role) (a : Addr) : (s.touchWord r a).ppc = s.ppc :=
    by simp only [State.touchWord, State.access_ppc]
@[simp] theorem State.touchWord_fcw (r : Role) (a : Addr) : (s.touchWord r a).fcw = s.fcw :=
    by simp only [State.touchWord, State.access_fcw]
@[simp] theorem State.touchWord_psapSeg (r : Role) (a : Addr) : (s.touchWord r a).psapSeg = s.psapSeg :=
    by simp only [State.touchWord, State.access_psapSeg]
@[simp] theorem State.touchWord_psapOff (r : Role) (a : Addr) : (s.touchWord r a).psapOff = s.psapOff :=
    by simp only [State.touchWord, State.access_psapOff]
@[simp] theorem State.touchWord_nspSeg (r : Role) (a : Addr) : (s.touchWord r a).nspSeg = s.nspSeg :=
    by simp only [State.touchWord, State.access_nspSeg]
@[simp] theorem State.touchWord_nspOff (r : Role) (a : Addr) : (s.touchWord r a).nspOff = s.nspOff :=
    by simp only [State.touchWord, State.access_nspOff]
@[simp] theorem State.touchWord_refresh (r : Role) (a : Addr) : (s.touchWord r a).refresh = s.refresh :=
    by simp only [State.touchWord, State.access_refresh]
@[simp] theorem State.touchWord_nmiState (r : Role) (a : Addr) : (s.touchWord r a).nmiState = s.nmiState :=
    by simp only [State.touchWord, State.access_nmiState]
@[simp] theorem State.touchWord_nmiPrev (r : Role) (a : Addr) : (s.touchWord r a).nmiPrev = s.nmiPrev :=
    by simp only [State.touchWord, State.access_nmiPrev]
@[simp] theorem State.touchWord_nviLine (r : Role) (a : Addr) : (s.touchWord r a).nviLine = s.nviLine :=
    by simp only [State.touchWord, State.access_nviLine]
@[simp] theorem State.touchWord_viLine (r : Role) (a : Addr) : (s.touchWord r a).viLine = s.viLine :=
    by simp only [State.touchWord, State.access_viLine]
@[simp] theorem State.touchWord_irqVec (r : Role) (a : Addr) : (s.touchWord r a).irqVec = s.irqVec :=
    by simp only [State.touchWord, State.access_irqVec]
@[simp] theorem State.touchWord_mi (r : Role) (a : Addr) : (s.touchWord r a).mi = s.mi :=
    by simp only [State.touchWord, State.access_mi]
@[simp] theorem State.touchWord_halt (r : Role) (a : Addr) : (s.touchWord r a).halt = s.halt :=
    by simp only [State.touchWord, State.access_halt]
@[simp] theorem State.touchWord_op (r : Role) (a : Addr) : (s.touchWord r a).op = s.op :=
    by simp only [State.touchWord, State.access_op]
@[simp] theorem State.touchWord_opValid (r : Role) (a : Addr) : (s.touchWord r a).opValid = s.opValid :=
    by simp only [State.touchWord, State.access_opValid]
@[simp] theorem State.touchWord_totalCycles (r : Role) (a : Addr) : (s.touchWord r a).totalCycles = s.totalCycles :=
    by simp only [State.touchWord, State.access_totalCycles]
@[simp] theorem State.touchWord_icount (r : Role) (a : Addr) : (s.touchWord r a).icount = s.icount :=
    by simp only [State.touchWord, State.access_icount]
@[simp] theorem State.touchWord_mem (r : Role) (a : Addr) : (s.touchWord r a).mem = s.mem :=
    by simp only [State.touchWord, State.access_mem]
@[simp] theorem State.touchWord_guards (r : Role) (a : Addr) : (s.touchWord r a).guards = s.guards :=
    by simp only [State.touchWord, State.access_guards]
@[simp] theorem State.touchWord_ioLog (r : Role) (a : Addr) : (s.touchWord r a).ioLog = s.ioLog :=
    by simp only [State.touchWord, State.access_ioLog]
@[simp] theorem State.touchWord_draws (r : Role) (a : Addr) : (s.touchWord r a).draws = s.draws :=
    by simp only [State.touchWord, State.access_draws]

/-! ### `touchLong` -/

@[simp] theorem State.touchLong_cfg (r : Role) (a : Addr) : (s.touchLong r a).cfg = s.cfg :=
    by simp only [State.touchLong, State.access_cfg]
@[simp] theorem State.touchLong_regs (r : Role) (a : Addr) : (s.touchLong r a).regs = s.regs :=
    by simp only [State.touchLong, State.access_regs]
@[simp] theorem State.touchLong_pc (r : Role) (a : Addr) : (s.touchLong r a).pc = s.pc :=
    by simp only [State.touchLong, State.access_pc]
@[simp] theorem State.touchLong_ppc (r : Role) (a : Addr) : (s.touchLong r a).ppc = s.ppc :=
    by simp only [State.touchLong, State.access_ppc]
@[simp] theorem State.touchLong_fcw (r : Role) (a : Addr) : (s.touchLong r a).fcw = s.fcw :=
    by simp only [State.touchLong, State.access_fcw]
@[simp] theorem State.touchLong_psapSeg (r : Role) (a : Addr) : (s.touchLong r a).psapSeg = s.psapSeg :=
    by simp only [State.touchLong, State.access_psapSeg]
@[simp] theorem State.touchLong_psapOff (r : Role) (a : Addr) : (s.touchLong r a).psapOff = s.psapOff :=
    by simp only [State.touchLong, State.access_psapOff]
@[simp] theorem State.touchLong_nspSeg (r : Role) (a : Addr) : (s.touchLong r a).nspSeg = s.nspSeg :=
    by simp only [State.touchLong, State.access_nspSeg]
@[simp] theorem State.touchLong_nspOff (r : Role) (a : Addr) : (s.touchLong r a).nspOff = s.nspOff :=
    by simp only [State.touchLong, State.access_nspOff]
@[simp] theorem State.touchLong_refresh (r : Role) (a : Addr) : (s.touchLong r a).refresh = s.refresh :=
    by simp only [State.touchLong, State.access_refresh]
@[simp] theorem State.touchLong_nmiState (r : Role) (a : Addr) : (s.touchLong r a).nmiState = s.nmiState :=
    by simp only [State.touchLong, State.access_nmiState]
@[simp] theorem State.touchLong_nmiPrev (r : Role) (a : Addr) : (s.touchLong r a).nmiPrev = s.nmiPrev :=
    by simp only [State.touchLong, State.access_nmiPrev]
@[simp] theorem State.touchLong_nviLine (r : Role) (a : Addr) : (s.touchLong r a).nviLine = s.nviLine :=
    by simp only [State.touchLong, State.access_nviLine]
@[simp] theorem State.touchLong_viLine (r : Role) (a : Addr) : (s.touchLong r a).viLine = s.viLine :=
    by simp only [State.touchLong, State.access_viLine]
@[simp] theorem State.touchLong_irqVec (r : Role) (a : Addr) : (s.touchLong r a).irqVec = s.irqVec :=
    by simp only [State.touchLong, State.access_irqVec]
@[simp] theorem State.touchLong_mi (r : Role) (a : Addr) : (s.touchLong r a).mi = s.mi :=
    by simp only [State.touchLong, State.access_mi]
@[simp] theorem State.touchLong_halt (r : Role) (a : Addr) : (s.touchLong r a).halt = s.halt :=
    by simp only [State.touchLong, State.access_halt]
@[simp] theorem State.touchLong_op (r : Role) (a : Addr) : (s.touchLong r a).op = s.op :=
    by simp only [State.touchLong, State.access_op]
@[simp] theorem State.touchLong_opValid (r : Role) (a : Addr) : (s.touchLong r a).opValid = s.opValid :=
    by simp only [State.touchLong, State.access_opValid]
@[simp] theorem State.touchLong_totalCycles (r : Role) (a : Addr) : (s.touchLong r a).totalCycles = s.totalCycles :=
    by simp only [State.touchLong, State.access_totalCycles]
@[simp] theorem State.touchLong_icount (r : Role) (a : Addr) : (s.touchLong r a).icount = s.icount :=
    by simp only [State.touchLong, State.access_icount]
@[simp] theorem State.touchLong_mem (r : Role) (a : Addr) : (s.touchLong r a).mem = s.mem :=
    by simp only [State.touchLong, State.access_mem]
@[simp] theorem State.touchLong_guards (r : Role) (a : Addr) : (s.touchLong r a).guards = s.guards :=
    by simp only [State.touchLong, State.access_guards]
@[simp] theorem State.touchLong_ioLog (r : Role) (a : Addr) : (s.touchLong r a).ioLog = s.ioLog :=
    by simp only [State.touchLong, State.access_ioLog]
@[simp] theorem State.touchLong_draws (r : Role) (a : Addr) : (s.touchLong r a).draws = s.draws :=
    by simp only [State.touchLong, State.access_draws]

/-! ### `dropWord` -/

@[simp] theorem State.dropWord_cfg (p : Reg) : (s.dropWord p).cfg = s.cfg :=
    by simp only [State.dropWord, State.touchWord_cfg, State.stepPointer_cfg]
@[simp] theorem State.dropWord_pc (p : Reg) : (s.dropWord p).pc = s.pc :=
    by simp only [State.dropWord, State.touchWord_pc, State.stepPointer_pc]
@[simp] theorem State.dropWord_ppc (p : Reg) : (s.dropWord p).ppc = s.ppc :=
    by simp only [State.dropWord, State.touchWord_ppc, State.stepPointer_ppc]
@[simp] theorem State.dropWord_fcw (p : Reg) : (s.dropWord p).fcw = s.fcw :=
    by simp only [State.dropWord, State.touchWord_fcw, State.stepPointer_fcw]
@[simp] theorem State.dropWord_psapSeg (p : Reg) : (s.dropWord p).psapSeg = s.psapSeg :=
    by simp only [State.dropWord, State.touchWord_psapSeg, State.stepPointer_psapSeg]
@[simp] theorem State.dropWord_psapOff (p : Reg) : (s.dropWord p).psapOff = s.psapOff :=
    by simp only [State.dropWord, State.touchWord_psapOff, State.stepPointer_psapOff]
@[simp] theorem State.dropWord_nspSeg (p : Reg) : (s.dropWord p).nspSeg = s.nspSeg :=
    by simp only [State.dropWord, State.touchWord_nspSeg, State.stepPointer_nspSeg]
@[simp] theorem State.dropWord_nspOff (p : Reg) : (s.dropWord p).nspOff = s.nspOff :=
    by simp only [State.dropWord, State.touchWord_nspOff, State.stepPointer_nspOff]
@[simp] theorem State.dropWord_refresh (p : Reg) : (s.dropWord p).refresh = s.refresh :=
    by simp only [State.dropWord, State.touchWord_refresh, State.stepPointer_refresh]
@[simp] theorem State.dropWord_nmiState (p : Reg) : (s.dropWord p).nmiState = s.nmiState :=
    by simp only [State.dropWord, State.touchWord_nmiState, State.stepPointer_nmiState]
@[simp] theorem State.dropWord_nmiPrev (p : Reg) : (s.dropWord p).nmiPrev = s.nmiPrev :=
    by simp only [State.dropWord, State.touchWord_nmiPrev, State.stepPointer_nmiPrev]
@[simp] theorem State.dropWord_nviLine (p : Reg) : (s.dropWord p).nviLine = s.nviLine :=
    by simp only [State.dropWord, State.touchWord_nviLine, State.stepPointer_nviLine]
@[simp] theorem State.dropWord_viLine (p : Reg) : (s.dropWord p).viLine = s.viLine :=
    by simp only [State.dropWord, State.touchWord_viLine, State.stepPointer_viLine]
@[simp] theorem State.dropWord_irqVec (p : Reg) : (s.dropWord p).irqVec = s.irqVec :=
    by simp only [State.dropWord, State.touchWord_irqVec, State.stepPointer_irqVec]
@[simp] theorem State.dropWord_mi (p : Reg) : (s.dropWord p).mi = s.mi :=
    by simp only [State.dropWord, State.touchWord_mi, State.stepPointer_mi]
@[simp] theorem State.dropWord_halt (p : Reg) : (s.dropWord p).halt = s.halt :=
    by simp only [State.dropWord, State.touchWord_halt, State.stepPointer_halt]
@[simp] theorem State.dropWord_op (p : Reg) : (s.dropWord p).op = s.op :=
    by simp only [State.dropWord, State.touchWord_op, State.stepPointer_op]
@[simp] theorem State.dropWord_opValid (p : Reg) : (s.dropWord p).opValid = s.opValid :=
    by simp only [State.dropWord, State.touchWord_opValid, State.stepPointer_opValid]
@[simp] theorem State.dropWord_totalCycles (p : Reg) : (s.dropWord p).totalCycles = s.totalCycles :=
    by simp only [State.dropWord, State.touchWord_totalCycles, State.stepPointer_totalCycles]
@[simp] theorem State.dropWord_icount (p : Reg) : (s.dropWord p).icount = s.icount :=
    by simp only [State.dropWord, State.touchWord_icount, State.stepPointer_icount]
@[simp] theorem State.dropWord_mem (p : Reg) : (s.dropWord p).mem = s.mem :=
    by simp only [State.dropWord, State.touchWord_mem, State.stepPointer_mem]
@[simp] theorem State.dropWord_guards (p : Reg) : (s.dropWord p).guards = s.guards :=
    by simp only [State.dropWord, State.touchWord_guards, State.stepPointer_guards]
@[simp] theorem State.dropWord_ioLog (p : Reg) : (s.dropWord p).ioLog = s.ioLog :=
    by simp only [State.dropWord, State.touchWord_ioLog, State.stepPointer_ioLog]
@[simp] theorem State.dropWord_draws (p : Reg) : (s.dropWord p).draws = s.draws :=
    by simp only [State.dropWord, State.touchWord_draws, State.stepPointer_draws]

/-! ### `dropLong` -/

@[simp] theorem State.dropLong_cfg (p : Reg) : (s.dropLong p).cfg = s.cfg :=
    by simp only [State.dropLong, State.touchLong_cfg, State.stepPointer_cfg]
@[simp] theorem State.dropLong_pc (p : Reg) : (s.dropLong p).pc = s.pc :=
    by simp only [State.dropLong, State.touchLong_pc, State.stepPointer_pc]
@[simp] theorem State.dropLong_ppc (p : Reg) : (s.dropLong p).ppc = s.ppc :=
    by simp only [State.dropLong, State.touchLong_ppc, State.stepPointer_ppc]
@[simp] theorem State.dropLong_fcw (p : Reg) : (s.dropLong p).fcw = s.fcw :=
    by simp only [State.dropLong, State.touchLong_fcw, State.stepPointer_fcw]
@[simp] theorem State.dropLong_psapSeg (p : Reg) : (s.dropLong p).psapSeg = s.psapSeg :=
    by simp only [State.dropLong, State.touchLong_psapSeg, State.stepPointer_psapSeg]
@[simp] theorem State.dropLong_psapOff (p : Reg) : (s.dropLong p).psapOff = s.psapOff :=
    by simp only [State.dropLong, State.touchLong_psapOff, State.stepPointer_psapOff]
@[simp] theorem State.dropLong_nspSeg (p : Reg) : (s.dropLong p).nspSeg = s.nspSeg :=
    by simp only [State.dropLong, State.touchLong_nspSeg, State.stepPointer_nspSeg]
@[simp] theorem State.dropLong_nspOff (p : Reg) : (s.dropLong p).nspOff = s.nspOff :=
    by simp only [State.dropLong, State.touchLong_nspOff, State.stepPointer_nspOff]
@[simp] theorem State.dropLong_refresh (p : Reg) : (s.dropLong p).refresh = s.refresh :=
    by simp only [State.dropLong, State.touchLong_refresh, State.stepPointer_refresh]
@[simp] theorem State.dropLong_nmiState (p : Reg) : (s.dropLong p).nmiState = s.nmiState :=
    by simp only [State.dropLong, State.touchLong_nmiState, State.stepPointer_nmiState]
@[simp] theorem State.dropLong_nmiPrev (p : Reg) : (s.dropLong p).nmiPrev = s.nmiPrev :=
    by simp only [State.dropLong, State.touchLong_nmiPrev, State.stepPointer_nmiPrev]
@[simp] theorem State.dropLong_nviLine (p : Reg) : (s.dropLong p).nviLine = s.nviLine :=
    by simp only [State.dropLong, State.touchLong_nviLine, State.stepPointer_nviLine]
@[simp] theorem State.dropLong_viLine (p : Reg) : (s.dropLong p).viLine = s.viLine :=
    by simp only [State.dropLong, State.touchLong_viLine, State.stepPointer_viLine]
@[simp] theorem State.dropLong_irqVec (p : Reg) : (s.dropLong p).irqVec = s.irqVec :=
    by simp only [State.dropLong, State.touchLong_irqVec, State.stepPointer_irqVec]
@[simp] theorem State.dropLong_mi (p : Reg) : (s.dropLong p).mi = s.mi :=
    by simp only [State.dropLong, State.touchLong_mi, State.stepPointer_mi]
@[simp] theorem State.dropLong_halt (p : Reg) : (s.dropLong p).halt = s.halt :=
    by simp only [State.dropLong, State.touchLong_halt, State.stepPointer_halt]
@[simp] theorem State.dropLong_op (p : Reg) : (s.dropLong p).op = s.op :=
    by simp only [State.dropLong, State.touchLong_op, State.stepPointer_op]
@[simp] theorem State.dropLong_opValid (p : Reg) : (s.dropLong p).opValid = s.opValid :=
    by simp only [State.dropLong, State.touchLong_opValid, State.stepPointer_opValid]
@[simp] theorem State.dropLong_totalCycles (p : Reg) : (s.dropLong p).totalCycles = s.totalCycles :=
    by simp only [State.dropLong, State.touchLong_totalCycles, State.stepPointer_totalCycles]
@[simp] theorem State.dropLong_icount (p : Reg) : (s.dropLong p).icount = s.icount :=
    by simp only [State.dropLong, State.touchLong_icount, State.stepPointer_icount]
@[simp] theorem State.dropLong_mem (p : Reg) : (s.dropLong p).mem = s.mem :=
    by simp only [State.dropLong, State.touchLong_mem, State.stepPointer_mem]
@[simp] theorem State.dropLong_guards (p : Reg) : (s.dropLong p).guards = s.guards :=
    by simp only [State.dropLong, State.touchLong_guards, State.stepPointer_guards]
@[simp] theorem State.dropLong_ioLog (p : Reg) : (s.dropLong p).ioLog = s.ioLog :=
    by simp only [State.dropLong, State.touchLong_ioLog, State.stepPointer_ioLog]
@[simp] theorem State.dropLong_draws (p : Reg) : (s.dropLong p).draws = s.draws :=
    by simp only [State.dropLong, State.touchLong_draws, State.stepPointer_draws]

/-! ### `poke` -/

@[simp] theorem State.poke_cfg (a : Addr) (v : Byte) : (s.poke a v).cfg = s.cfg := rfl
@[simp] theorem State.poke_regs (a : Addr) (v : Byte) : (s.poke a v).regs = s.regs := rfl
@[simp] theorem State.poke_pc (a : Addr) (v : Byte) : (s.poke a v).pc = s.pc := rfl
@[simp] theorem State.poke_ppc (a : Addr) (v : Byte) : (s.poke a v).ppc = s.ppc := rfl
@[simp] theorem State.poke_fcw (a : Addr) (v : Byte) : (s.poke a v).fcw = s.fcw := rfl
@[simp] theorem State.poke_psapSeg (a : Addr) (v : Byte) : (s.poke a v).psapSeg = s.psapSeg := rfl
@[simp] theorem State.poke_psapOff (a : Addr) (v : Byte) : (s.poke a v).psapOff = s.psapOff := rfl
@[simp] theorem State.poke_nspSeg (a : Addr) (v : Byte) : (s.poke a v).nspSeg = s.nspSeg := rfl
@[simp] theorem State.poke_nspOff (a : Addr) (v : Byte) : (s.poke a v).nspOff = s.nspOff := rfl
@[simp] theorem State.poke_refresh (a : Addr) (v : Byte) : (s.poke a v).refresh = s.refresh := rfl
@[simp] theorem State.poke_irqReq (a : Addr) (v : Byte) : (s.poke a v).irqReq = s.irqReq := rfl
@[simp] theorem State.poke_nmiState (a : Addr) (v : Byte) : (s.poke a v).nmiState = s.nmiState := rfl
@[simp] theorem State.poke_nmiPrev (a : Addr) (v : Byte) : (s.poke a v).nmiPrev = s.nmiPrev := rfl
@[simp] theorem State.poke_nviLine (a : Addr) (v : Byte) : (s.poke a v).nviLine = s.nviLine := rfl
@[simp] theorem State.poke_viLine (a : Addr) (v : Byte) : (s.poke a v).viLine = s.viLine := rfl
@[simp] theorem State.poke_irqVec (a : Addr) (v : Byte) : (s.poke a v).irqVec = s.irqVec := rfl
@[simp] theorem State.poke_mi (a : Addr) (v : Byte) : (s.poke a v).mi = s.mi := rfl
@[simp] theorem State.poke_halt (a : Addr) (v : Byte) : (s.poke a v).halt = s.halt := rfl
@[simp] theorem State.poke_op (a : Addr) (v : Byte) : (s.poke a v).op = s.op := rfl
@[simp] theorem State.poke_opValid (a : Addr) (v : Byte) : (s.poke a v).opValid = s.opValid := rfl
@[simp] theorem State.poke_totalCycles (a : Addr) (v : Byte) : (s.poke a v).totalCycles = s.totalCycles := rfl
@[simp] theorem State.poke_icount (a : Addr) (v : Byte) : (s.poke a v).icount = s.icount := rfl
@[simp] theorem State.poke_guards (a : Addr) (v : Byte) : (s.poke a v).guards = s.guards := rfl
@[simp] theorem State.poke_ioLog (a : Addr) (v : Byte) : (s.poke a v).ioLog = s.ioLog := rfl
@[simp] theorem State.poke_draws (a : Addr) (v : Byte) : (s.poke a v).draws = s.draws := rfl
@[simp] theorem State.poke_rest (a : Addr) (v : Byte) : (s.poke a v).rest = s.rest := rfl

/-! ### `writeByte` -/

@[simp] theorem State.writeByte_cfg (r : Role) (a : Addr) (v : Byte) : (s.writeByte r a v).cfg = s.cfg := rfl
@[simp] theorem State.writeByte_regs (r : Role) (a : Addr) (v : Byte) : (s.writeByte r a v).regs = s.regs := rfl
@[simp] theorem State.writeByte_pc (r : Role) (a : Addr) (v : Byte) : (s.writeByte r a v).pc = s.pc := rfl
@[simp] theorem State.writeByte_ppc (r : Role) (a : Addr) (v : Byte) : (s.writeByte r a v).ppc = s.ppc := rfl
@[simp] theorem State.writeByte_fcw (r : Role) (a : Addr) (v : Byte) : (s.writeByte r a v).fcw = s.fcw := rfl
@[simp] theorem State.writeByte_psapSeg (r : Role) (a : Addr) (v : Byte) : (s.writeByte r a v).psapSeg = s.psapSeg :=
    rfl
@[simp] theorem State.writeByte_psapOff (r : Role) (a : Addr) (v : Byte) : (s.writeByte r a v).psapOff = s.psapOff :=
    rfl
@[simp] theorem State.writeByte_nspSeg (r : Role) (a : Addr) (v : Byte) : (s.writeByte r a v).nspSeg = s.nspSeg := rfl
@[simp] theorem State.writeByte_nspOff (r : Role) (a : Addr) (v : Byte) : (s.writeByte r a v).nspOff = s.nspOff := rfl
@[simp] theorem State.writeByte_refresh (r : Role) (a : Addr) (v : Byte) : (s.writeByte r a v).refresh = s.refresh :=
    rfl
@[simp] theorem State.writeByte_nmiState (r : Role) (a : Addr) (v : Byte) :
    (s.writeByte r a v).nmiState = s.nmiState := rfl
@[simp] theorem State.writeByte_nmiPrev (r : Role) (a : Addr) (v : Byte) : (s.writeByte r a v).nmiPrev = s.nmiPrev :=
    rfl
@[simp] theorem State.writeByte_nviLine (r : Role) (a : Addr) (v : Byte) : (s.writeByte r a v).nviLine = s.nviLine :=
    rfl
@[simp] theorem State.writeByte_viLine (r : Role) (a : Addr) (v : Byte) : (s.writeByte r a v).viLine = s.viLine := rfl
@[simp] theorem State.writeByte_irqVec (r : Role) (a : Addr) (v : Byte) : (s.writeByte r a v).irqVec = s.irqVec := rfl
@[simp] theorem State.writeByte_mi (r : Role) (a : Addr) (v : Byte) : (s.writeByte r a v).mi = s.mi := rfl
@[simp] theorem State.writeByte_halt (r : Role) (a : Addr) (v : Byte) : (s.writeByte r a v).halt = s.halt := rfl
@[simp] theorem State.writeByte_op (r : Role) (a : Addr) (v : Byte) : (s.writeByte r a v).op = s.op := rfl
@[simp] theorem State.writeByte_opValid (r : Role) (a : Addr) (v : Byte) : (s.writeByte r a v).opValid = s.opValid :=
    rfl
@[simp] theorem State.writeByte_totalCycles (r : Role) (a : Addr) (v : Byte) :
    (s.writeByte r a v).totalCycles = s.totalCycles := rfl
@[simp] theorem State.writeByte_icount (r : Role) (a : Addr) (v : Byte) : (s.writeByte r a v).icount = s.icount := rfl
@[simp] theorem State.writeByte_guards (r : Role) (a : Addr) (v : Byte) : (s.writeByte r a v).guards = s.guards := rfl
@[simp] theorem State.writeByte_ioLog (r : Role) (a : Addr) (v : Byte) : (s.writeByte r a v).ioLog = s.ioLog := rfl
@[simp] theorem State.writeByte_draws (r : Role) (a : Addr) (v : Byte) : (s.writeByte r a v).draws = s.draws := rfl

/-! ### `writeWord` -/

@[simp] theorem State.writeWord_cfg (r : Role) (a : Addr) (v : Word) : (s.writeWord r a v).cfg = s.cfg :=
    by simp only [State.writeWord, State.writeByte_cfg]
@[simp] theorem State.writeWord_regs (r : Role) (a : Addr) (v : Word) : (s.writeWord r a v).regs = s.regs :=
    by simp only [State.writeWord, State.writeByte_regs]
@[simp] theorem State.writeWord_pc (r : Role) (a : Addr) (v : Word) : (s.writeWord r a v).pc = s.pc :=
    by simp only [State.writeWord, State.writeByte_pc]
@[simp] theorem State.writeWord_ppc (r : Role) (a : Addr) (v : Word) : (s.writeWord r a v).ppc = s.ppc :=
    by simp only [State.writeWord, State.writeByte_ppc]
@[simp] theorem State.writeWord_fcw (r : Role) (a : Addr) (v : Word) : (s.writeWord r a v).fcw = s.fcw :=
    by simp only [State.writeWord, State.writeByte_fcw]
@[simp] theorem State.writeWord_psapSeg (r : Role) (a : Addr) (v : Word) : (s.writeWord r a v).psapSeg = s.psapSeg :=
    by simp only [State.writeWord, State.writeByte_psapSeg]
@[simp] theorem State.writeWord_psapOff (r : Role) (a : Addr) (v : Word) : (s.writeWord r a v).psapOff = s.psapOff :=
    by simp only [State.writeWord, State.writeByte_psapOff]
@[simp] theorem State.writeWord_nspSeg (r : Role) (a : Addr) (v : Word) : (s.writeWord r a v).nspSeg = s.nspSeg :=
    by simp only [State.writeWord, State.writeByte_nspSeg]
@[simp] theorem State.writeWord_nspOff (r : Role) (a : Addr) (v : Word) : (s.writeWord r a v).nspOff = s.nspOff :=
    by simp only [State.writeWord, State.writeByte_nspOff]
@[simp] theorem State.writeWord_refresh (r : Role) (a : Addr) (v : Word) : (s.writeWord r a v).refresh = s.refresh :=
    by simp only [State.writeWord, State.writeByte_refresh]
@[simp] theorem State.writeWord_nmiState (r : Role) (a : Addr) (v : Word) :
    (s.writeWord r a v).nmiState = s.nmiState := by simp only [State.writeWord, State.writeByte_nmiState]
@[simp] theorem State.writeWord_nmiPrev (r : Role) (a : Addr) (v : Word) : (s.writeWord r a v).nmiPrev = s.nmiPrev :=
    by simp only [State.writeWord, State.writeByte_nmiPrev]
@[simp] theorem State.writeWord_nviLine (r : Role) (a : Addr) (v : Word) : (s.writeWord r a v).nviLine = s.nviLine :=
    by simp only [State.writeWord, State.writeByte_nviLine]
@[simp] theorem State.writeWord_viLine (r : Role) (a : Addr) (v : Word) : (s.writeWord r a v).viLine = s.viLine :=
    by simp only [State.writeWord, State.writeByte_viLine]
@[simp] theorem State.writeWord_irqVec (r : Role) (a : Addr) (v : Word) : (s.writeWord r a v).irqVec = s.irqVec :=
    by simp only [State.writeWord, State.writeByte_irqVec]
@[simp] theorem State.writeWord_mi (r : Role) (a : Addr) (v : Word) : (s.writeWord r a v).mi = s.mi :=
    by simp only [State.writeWord, State.writeByte_mi]
@[simp] theorem State.writeWord_halt (r : Role) (a : Addr) (v : Word) : (s.writeWord r a v).halt = s.halt :=
    by simp only [State.writeWord, State.writeByte_halt]
@[simp] theorem State.writeWord_op (r : Role) (a : Addr) (v : Word) : (s.writeWord r a v).op = s.op :=
    by simp only [State.writeWord, State.writeByte_op]
@[simp] theorem State.writeWord_opValid (r : Role) (a : Addr) (v : Word) : (s.writeWord r a v).opValid = s.opValid :=
    by simp only [State.writeWord, State.writeByte_opValid]
@[simp] theorem State.writeWord_totalCycles (r : Role) (a : Addr) (v : Word) :
    (s.writeWord r a v).totalCycles = s.totalCycles := by simp only [State.writeWord, State.writeByte_totalCycles]
@[simp] theorem State.writeWord_icount (r : Role) (a : Addr) (v : Word) : (s.writeWord r a v).icount = s.icount :=
    by simp only [State.writeWord, State.writeByte_icount]
@[simp] theorem State.writeWord_guards (r : Role) (a : Addr) (v : Word) : (s.writeWord r a v).guards = s.guards :=
    by simp only [State.writeWord, State.writeByte_guards]
@[simp] theorem State.writeWord_ioLog (r : Role) (a : Addr) (v : Word) : (s.writeWord r a v).ioLog = s.ioLog :=
    by simp only [State.writeWord, State.writeByte_ioLog]
@[simp] theorem State.writeWord_draws (r : Role) (a : Addr) (v : Word) : (s.writeWord r a v).draws = s.draws :=
    by simp only [State.writeWord, State.writeByte_draws]

/-! ### `writeLong` -/

@[simp] theorem State.writeLong_cfg (r : Role) (a : Addr) (v : Long) : (s.writeLong r a v).cfg = s.cfg :=
    by simp only [State.writeLong, State.writeWord_cfg]
@[simp] theorem State.writeLong_regs (r : Role) (a : Addr) (v : Long) : (s.writeLong r a v).regs = s.regs :=
    by simp only [State.writeLong, State.writeWord_regs]
@[simp] theorem State.writeLong_pc (r : Role) (a : Addr) (v : Long) : (s.writeLong r a v).pc = s.pc :=
    by simp only [State.writeLong, State.writeWord_pc]
@[simp] theorem State.writeLong_ppc (r : Role) (a : Addr) (v : Long) : (s.writeLong r a v).ppc = s.ppc :=
    by simp only [State.writeLong, State.writeWord_ppc]
@[simp] theorem State.writeLong_fcw (r : Role) (a : Addr) (v : Long) : (s.writeLong r a v).fcw = s.fcw :=
    by simp only [State.writeLong, State.writeWord_fcw]
@[simp] theorem State.writeLong_psapSeg (r : Role) (a : Addr) (v : Long) : (s.writeLong r a v).psapSeg = s.psapSeg :=
    by simp only [State.writeLong, State.writeWord_psapSeg]
@[simp] theorem State.writeLong_psapOff (r : Role) (a : Addr) (v : Long) : (s.writeLong r a v).psapOff = s.psapOff :=
    by simp only [State.writeLong, State.writeWord_psapOff]
@[simp] theorem State.writeLong_nspSeg (r : Role) (a : Addr) (v : Long) : (s.writeLong r a v).nspSeg = s.nspSeg :=
    by simp only [State.writeLong, State.writeWord_nspSeg]
@[simp] theorem State.writeLong_nspOff (r : Role) (a : Addr) (v : Long) : (s.writeLong r a v).nspOff = s.nspOff :=
    by simp only [State.writeLong, State.writeWord_nspOff]
@[simp] theorem State.writeLong_refresh (r : Role) (a : Addr) (v : Long) : (s.writeLong r a v).refresh = s.refresh :=
    by simp only [State.writeLong, State.writeWord_refresh]
@[simp] theorem State.writeLong_nmiState (r : Role) (a : Addr) (v : Long) :
    (s.writeLong r a v).nmiState = s.nmiState := by simp only [State.writeLong, State.writeWord_nmiState]
@[simp] theorem State.writeLong_nmiPrev (r : Role) (a : Addr) (v : Long) : (s.writeLong r a v).nmiPrev = s.nmiPrev :=
    by simp only [State.writeLong, State.writeWord_nmiPrev]
@[simp] theorem State.writeLong_nviLine (r : Role) (a : Addr) (v : Long) : (s.writeLong r a v).nviLine = s.nviLine :=
    by simp only [State.writeLong, State.writeWord_nviLine]
@[simp] theorem State.writeLong_viLine (r : Role) (a : Addr) (v : Long) : (s.writeLong r a v).viLine = s.viLine :=
    by simp only [State.writeLong, State.writeWord_viLine]
@[simp] theorem State.writeLong_irqVec (r : Role) (a : Addr) (v : Long) : (s.writeLong r a v).irqVec = s.irqVec :=
    by simp only [State.writeLong, State.writeWord_irqVec]
@[simp] theorem State.writeLong_mi (r : Role) (a : Addr) (v : Long) : (s.writeLong r a v).mi = s.mi :=
    by simp only [State.writeLong, State.writeWord_mi]
@[simp] theorem State.writeLong_halt (r : Role) (a : Addr) (v : Long) : (s.writeLong r a v).halt = s.halt :=
    by simp only [State.writeLong, State.writeWord_halt]
@[simp] theorem State.writeLong_op (r : Role) (a : Addr) (v : Long) : (s.writeLong r a v).op = s.op :=
    by simp only [State.writeLong, State.writeWord_op]
@[simp] theorem State.writeLong_opValid (r : Role) (a : Addr) (v : Long) : (s.writeLong r a v).opValid = s.opValid :=
    by simp only [State.writeLong, State.writeWord_opValid]
@[simp] theorem State.writeLong_totalCycles (r : Role) (a : Addr) (v : Long) :
    (s.writeLong r a v).totalCycles = s.totalCycles := by simp only [State.writeLong, State.writeWord_totalCycles]
@[simp] theorem State.writeLong_icount (r : Role) (a : Addr) (v : Long) : (s.writeLong r a v).icount = s.icount :=
    by simp only [State.writeLong, State.writeWord_icount]
@[simp] theorem State.writeLong_guards (r : Role) (a : Addr) (v : Long) : (s.writeLong r a v).guards = s.guards :=
    by simp only [State.writeLong, State.writeWord_guards]
@[simp] theorem State.writeLong_ioLog (r : Role) (a : Addr) (v : Long) : (s.writeLong r a v).ioLog = s.ioLog :=
    by simp only [State.writeLong, State.writeWord_ioLog]
@[simp] theorem State.writeLong_draws (r : Role) (a : Addr) (v : Long) : (s.writeLong r a v).draws = s.draws :=
    by simp only [State.writeLong, State.writeWord_draws]

/-! ### `setFlags` -/

@[simp] theorem State.setFlags_cfg (u : FlagUpdate) : (s.setFlags u).cfg = s.cfg := rfl
@[simp] theorem State.setFlags_regs (u : FlagUpdate) : (s.setFlags u).regs = s.regs := rfl
@[simp] theorem State.setFlags_pc (u : FlagUpdate) : (s.setFlags u).pc = s.pc := rfl
@[simp] theorem State.setFlags_ppc (u : FlagUpdate) : (s.setFlags u).ppc = s.ppc := rfl
@[simp] theorem State.setFlags_psapSeg (u : FlagUpdate) : (s.setFlags u).psapSeg = s.psapSeg := rfl
@[simp] theorem State.setFlags_psapOff (u : FlagUpdate) : (s.setFlags u).psapOff = s.psapOff := rfl
@[simp] theorem State.setFlags_nspSeg (u : FlagUpdate) : (s.setFlags u).nspSeg = s.nspSeg := rfl
@[simp] theorem State.setFlags_nspOff (u : FlagUpdate) : (s.setFlags u).nspOff = s.nspOff := rfl
@[simp] theorem State.setFlags_refresh (u : FlagUpdate) : (s.setFlags u).refresh = s.refresh := rfl
@[simp] theorem State.setFlags_irqReq (u : FlagUpdate) : (s.setFlags u).irqReq = s.irqReq := rfl
@[simp] theorem State.setFlags_nmiState (u : FlagUpdate) : (s.setFlags u).nmiState = s.nmiState := rfl
@[simp] theorem State.setFlags_nmiPrev (u : FlagUpdate) : (s.setFlags u).nmiPrev = s.nmiPrev := rfl
@[simp] theorem State.setFlags_nviLine (u : FlagUpdate) : (s.setFlags u).nviLine = s.nviLine := rfl
@[simp] theorem State.setFlags_viLine (u : FlagUpdate) : (s.setFlags u).viLine = s.viLine := rfl
@[simp] theorem State.setFlags_irqVec (u : FlagUpdate) : (s.setFlags u).irqVec = s.irqVec := rfl
@[simp] theorem State.setFlags_mi (u : FlagUpdate) : (s.setFlags u).mi = s.mi := rfl
@[simp] theorem State.setFlags_halt (u : FlagUpdate) : (s.setFlags u).halt = s.halt := rfl
@[simp] theorem State.setFlags_op (u : FlagUpdate) : (s.setFlags u).op = s.op := rfl
@[simp] theorem State.setFlags_opValid (u : FlagUpdate) : (s.setFlags u).opValid = s.opValid := rfl
@[simp] theorem State.setFlags_totalCycles (u : FlagUpdate) : (s.setFlags u).totalCycles = s.totalCycles := rfl
@[simp] theorem State.setFlags_icount (u : FlagUpdate) : (s.setFlags u).icount = s.icount := rfl
@[simp] theorem State.setFlags_mem (u : FlagUpdate) : (s.setFlags u).mem = s.mem := rfl
@[simp] theorem State.setFlags_guards (u : FlagUpdate) : (s.setFlags u).guards = s.guards := rfl
@[simp] theorem State.setFlags_ioLog (u : FlagUpdate) : (s.setFlags u).ioLog = s.ioLog := rfl
@[simp] theorem State.setFlags_draws (u : FlagUpdate) : (s.setFlags u).draws = s.draws := rfl
@[simp] theorem State.setFlags_rest (u : FlagUpdate) : (s.setFlags u).rest = s.rest := rfl

/-! ### `setPc` -/

@[simp] theorem State.setPc_cfg (a : Addr) : (s.setPc a).cfg = s.cfg := rfl
@[simp] theorem State.setPc_regs (a : Addr) : (s.setPc a).regs = s.regs := rfl
@[simp] theorem State.setPc_ppc (a : Addr) : (s.setPc a).ppc = s.ppc := rfl
@[simp] theorem State.setPc_fcw (a : Addr) : (s.setPc a).fcw = s.fcw := rfl
@[simp] theorem State.setPc_psapSeg (a : Addr) : (s.setPc a).psapSeg = s.psapSeg := rfl
@[simp] theorem State.setPc_psapOff (a : Addr) : (s.setPc a).psapOff = s.psapOff := rfl
@[simp] theorem State.setPc_nspSeg (a : Addr) : (s.setPc a).nspSeg = s.nspSeg := rfl
@[simp] theorem State.setPc_nspOff (a : Addr) : (s.setPc a).nspOff = s.nspOff := rfl
@[simp] theorem State.setPc_refresh (a : Addr) : (s.setPc a).refresh = s.refresh := rfl
@[simp] theorem State.setPc_irqReq (a : Addr) : (s.setPc a).irqReq = s.irqReq := rfl
@[simp] theorem State.setPc_nmiState (a : Addr) : (s.setPc a).nmiState = s.nmiState := rfl
@[simp] theorem State.setPc_nmiPrev (a : Addr) : (s.setPc a).nmiPrev = s.nmiPrev := rfl
@[simp] theorem State.setPc_nviLine (a : Addr) : (s.setPc a).nviLine = s.nviLine := rfl
@[simp] theorem State.setPc_viLine (a : Addr) : (s.setPc a).viLine = s.viLine := rfl
@[simp] theorem State.setPc_irqVec (a : Addr) : (s.setPc a).irqVec = s.irqVec := rfl
@[simp] theorem State.setPc_mi (a : Addr) : (s.setPc a).mi = s.mi := rfl
@[simp] theorem State.setPc_halt (a : Addr) : (s.setPc a).halt = s.halt := rfl
@[simp] theorem State.setPc_op (a : Addr) : (s.setPc a).op = s.op := rfl
@[simp] theorem State.setPc_opValid (a : Addr) : (s.setPc a).opValid = s.opValid := rfl
@[simp] theorem State.setPc_totalCycles (a : Addr) : (s.setPc a).totalCycles = s.totalCycles := rfl
@[simp] theorem State.setPc_icount (a : Addr) : (s.setPc a).icount = s.icount := rfl
@[simp] theorem State.setPc_mem (a : Addr) : (s.setPc a).mem = s.mem := rfl
@[simp] theorem State.setPc_guards (a : Addr) : (s.setPc a).guards = s.guards := rfl
@[simp] theorem State.setPc_ioLog (a : Addr) : (s.setPc a).ioLog = s.ioLog := rfl
@[simp] theorem State.setPc_draws (a : Addr) : (s.setPc a).draws = s.draws := rfl
@[simp] theorem State.setPc_rest (a : Addr) : (s.setPc a).rest = s.rest := rfl

/-! ### `fetch` -/

@[simp] theorem State.fetch_cfg : (s.fetch).cfg = s.cfg := rfl
@[simp] theorem State.fetch_regs : (s.fetch).regs = s.regs := rfl
@[simp] theorem State.fetch_ppc : (s.fetch).ppc = s.ppc := rfl
@[simp] theorem State.fetch_fcw : (s.fetch).fcw = s.fcw := rfl
@[simp] theorem State.fetch_psapSeg : (s.fetch).psapSeg = s.psapSeg := rfl
@[simp] theorem State.fetch_psapOff : (s.fetch).psapOff = s.psapOff := rfl
@[simp] theorem State.fetch_nspSeg : (s.fetch).nspSeg = s.nspSeg := rfl
@[simp] theorem State.fetch_nspOff : (s.fetch).nspOff = s.nspOff := rfl
@[simp] theorem State.fetch_refresh : (s.fetch).refresh = s.refresh := rfl
@[simp] theorem State.fetch_nmiState : (s.fetch).nmiState = s.nmiState := rfl
@[simp] theorem State.fetch_nmiPrev : (s.fetch).nmiPrev = s.nmiPrev := rfl
@[simp] theorem State.fetch_nviLine : (s.fetch).nviLine = s.nviLine := rfl
@[simp] theorem State.fetch_viLine : (s.fetch).viLine = s.viLine := rfl
@[simp] theorem State.fetch_irqVec : (s.fetch).irqVec = s.irqVec := rfl
@[simp] theorem State.fetch_mi : (s.fetch).mi = s.mi := rfl
@[simp] theorem State.fetch_halt : (s.fetch).halt = s.halt := rfl
@[simp] theorem State.fetch_totalCycles : (s.fetch).totalCycles = s.totalCycles := rfl
@[simp] theorem State.fetch_icount : (s.fetch).icount = s.icount := rfl
@[simp] theorem State.fetch_mem : (s.fetch).mem = s.mem := rfl
@[simp] theorem State.fetch_guards : (s.fetch).guards = s.guards := rfl
@[simp] theorem State.fetch_ioLog : (s.fetch).ioLog = s.ioLog := rfl
@[simp] theorem State.fetch_draws : (s.fetch).draws = s.draws := rfl

/-! ### `ioEvent` -/

@[simp] theorem State.ioEvent_cfg (e : IoEvent) : (s.ioEvent e).cfg = s.cfg := rfl
@[simp] theorem State.ioEvent_regs (e : IoEvent) : (s.ioEvent e).regs = s.regs := rfl
@[simp] theorem State.ioEvent_pc (e : IoEvent) : (s.ioEvent e).pc = s.pc := rfl
@[simp] theorem State.ioEvent_ppc (e : IoEvent) : (s.ioEvent e).ppc = s.ppc := rfl
@[simp] theorem State.ioEvent_fcw (e : IoEvent) : (s.ioEvent e).fcw = s.fcw := rfl
@[simp] theorem State.ioEvent_psapSeg (e : IoEvent) : (s.ioEvent e).psapSeg = s.psapSeg := rfl
@[simp] theorem State.ioEvent_psapOff (e : IoEvent) : (s.ioEvent e).psapOff = s.psapOff := rfl
@[simp] theorem State.ioEvent_nspSeg (e : IoEvent) : (s.ioEvent e).nspSeg = s.nspSeg := rfl
@[simp] theorem State.ioEvent_nspOff (e : IoEvent) : (s.ioEvent e).nspOff = s.nspOff := rfl
@[simp] theorem State.ioEvent_refresh (e : IoEvent) : (s.ioEvent e).refresh = s.refresh := rfl
@[simp] theorem State.ioEvent_nmiState (e : IoEvent) : (s.ioEvent e).nmiState = s.nmiState := rfl
@[simp] theorem State.ioEvent_nmiPrev (e : IoEvent) : (s.ioEvent e).nmiPrev = s.nmiPrev := rfl
@[simp] theorem State.ioEvent_nviLine (e : IoEvent) : (s.ioEvent e).nviLine = s.nviLine := rfl
@[simp] theorem State.ioEvent_viLine (e : IoEvent) : (s.ioEvent e).viLine = s.viLine := rfl
@[simp] theorem State.ioEvent_irqVec (e : IoEvent) : (s.ioEvent e).irqVec = s.irqVec := rfl
@[simp] theorem State.ioEvent_mi (e : IoEvent) : (s.ioEvent e).mi = s.mi := rfl
@[simp] theorem State.ioEvent_halt (e : IoEvent) : (s.ioEvent e).halt = s.halt := rfl
@[simp] theorem State.ioEvent_op (e : IoEvent) : (s.ioEvent e).op = s.op := rfl
@[simp] theorem State.ioEvent_opValid (e : IoEvent) : (s.ioEvent e).opValid = s.opValid := rfl
@[simp] theorem State.ioEvent_totalCycles (e : IoEvent) : (s.ioEvent e).totalCycles = s.totalCycles := rfl
@[simp] theorem State.ioEvent_icount (e : IoEvent) : (s.ioEvent e).icount = s.icount := rfl
@[simp] theorem State.ioEvent_mem (e : IoEvent) : (s.ioEvent e).mem = s.mem := rfl
@[simp] theorem State.ioEvent_guards (e : IoEvent) : (s.ioEvent e).guards = s.guards := rfl
@[simp] theorem State.ioEvent_draws (e : IoEvent) : (s.ioEvent e).draws = s.draws := rfl

/-! ### `drawn` -/

@[simp] theorem State.drawn_cfg : (s.drawn).cfg = s.cfg := rfl
@[simp] theorem State.drawn_regs : (s.drawn).regs = s.regs := rfl
@[simp] theorem State.drawn_pc : (s.drawn).pc = s.pc := rfl
@[simp] theorem State.drawn_ppc : (s.drawn).ppc = s.ppc := rfl
@[simp] theorem State.drawn_fcw : (s.drawn).fcw = s.fcw := rfl
@[simp] theorem State.drawn_psapSeg : (s.drawn).psapSeg = s.psapSeg := rfl
@[simp] theorem State.drawn_psapOff : (s.drawn).psapOff = s.psapOff := rfl
@[simp] theorem State.drawn_nspSeg : (s.drawn).nspSeg = s.nspSeg := rfl
@[simp] theorem State.drawn_nspOff : (s.drawn).nspOff = s.nspOff := rfl
@[simp] theorem State.drawn_refresh : (s.drawn).refresh = s.refresh := rfl
@[simp] theorem State.drawn_irqReq : (s.drawn).irqReq = s.irqReq := rfl
@[simp] theorem State.drawn_nmiState : (s.drawn).nmiState = s.nmiState := rfl
@[simp] theorem State.drawn_nmiPrev : (s.drawn).nmiPrev = s.nmiPrev := rfl
@[simp] theorem State.drawn_nviLine : (s.drawn).nviLine = s.nviLine := rfl
@[simp] theorem State.drawn_viLine : (s.drawn).viLine = s.viLine := rfl
@[simp] theorem State.drawn_irqVec : (s.drawn).irqVec = s.irqVec := rfl
@[simp] theorem State.drawn_mi : (s.drawn).mi = s.mi := rfl
@[simp] theorem State.drawn_halt : (s.drawn).halt = s.halt := rfl
@[simp] theorem State.drawn_op : (s.drawn).op = s.op := rfl
@[simp] theorem State.drawn_opValid : (s.drawn).opValid = s.opValid := rfl
@[simp] theorem State.drawn_totalCycles : (s.drawn).totalCycles = s.totalCycles := rfl
@[simp] theorem State.drawn_icount : (s.drawn).icount = s.icount := rfl
@[simp] theorem State.drawn_mem : (s.drawn).mem = s.mem := rfl
@[simp] theorem State.drawn_guards : (s.drawn).guards = s.guards := rfl
@[simp] theorem State.drawn_ioLog : (s.drawn).ioLog = s.ioLog := rfl

/-! ### `raise` -/

@[simp] theorem State.raise_cfg (c : Cause) : (s.raise c).cfg = s.cfg := rfl
@[simp] theorem State.raise_regs (c : Cause) : (s.raise c).regs = s.regs := rfl
@[simp] theorem State.raise_pc (c : Cause) : (s.raise c).pc = s.pc := rfl
@[simp] theorem State.raise_ppc (c : Cause) : (s.raise c).ppc = s.ppc := rfl
@[simp] theorem State.raise_fcw (c : Cause) : (s.raise c).fcw = s.fcw := rfl
@[simp] theorem State.raise_psapSeg (c : Cause) : (s.raise c).psapSeg = s.psapSeg := rfl
@[simp] theorem State.raise_psapOff (c : Cause) : (s.raise c).psapOff = s.psapOff := rfl
@[simp] theorem State.raise_nspSeg (c : Cause) : (s.raise c).nspSeg = s.nspSeg := rfl
@[simp] theorem State.raise_nspOff (c : Cause) : (s.raise c).nspOff = s.nspOff := rfl
@[simp] theorem State.raise_refresh (c : Cause) : (s.raise c).refresh = s.refresh := rfl
@[simp] theorem State.raise_nmiState (c : Cause) : (s.raise c).nmiState = s.nmiState := rfl
@[simp] theorem State.raise_nmiPrev (c : Cause) : (s.raise c).nmiPrev = s.nmiPrev := rfl
@[simp] theorem State.raise_nviLine (c : Cause) : (s.raise c).nviLine = s.nviLine := rfl
@[simp] theorem State.raise_viLine (c : Cause) : (s.raise c).viLine = s.viLine := rfl
@[simp] theorem State.raise_irqVec (c : Cause) : (s.raise c).irqVec = s.irqVec := rfl
@[simp] theorem State.raise_mi (c : Cause) : (s.raise c).mi = s.mi := rfl
@[simp] theorem State.raise_halt (c : Cause) : (s.raise c).halt = s.halt := rfl
@[simp] theorem State.raise_op (c : Cause) : (s.raise c).op = s.op := rfl
@[simp] theorem State.raise_opValid (c : Cause) : (s.raise c).opValid = s.opValid := rfl
@[simp] theorem State.raise_totalCycles (c : Cause) : (s.raise c).totalCycles = s.totalCycles := rfl
@[simp] theorem State.raise_icount (c : Cause) : (s.raise c).icount = s.icount := rfl
@[simp] theorem State.raise_mem (c : Cause) : (s.raise c).mem = s.mem := rfl
@[simp] theorem State.raise_guards (c : Cause) : (s.raise c).guards = s.guards := rfl
@[simp] theorem State.raise_ioLog (c : Cause) : (s.raise c).ioLog = s.ioLog := rfl
@[simp] theorem State.raise_draws (c : Cause) : (s.raise c).draws = s.draws := rfl

/-! ### `charge` -/

@[simp] theorem State.charge_cfg (k : Nat) : (s.charge k).cfg = s.cfg := rfl
@[simp] theorem State.charge_regs (k : Nat) : (s.charge k).regs = s.regs := rfl
@[simp] theorem State.charge_pc (k : Nat) : (s.charge k).pc = s.pc := rfl
@[simp] theorem State.charge_ppc (k : Nat) : (s.charge k).ppc = s.ppc := rfl
@[simp] theorem State.charge_fcw (k : Nat) : (s.charge k).fcw = s.fcw := rfl
@[simp] theorem State.charge_psapSeg (k : Nat) : (s.charge k).psapSeg = s.psapSeg := rfl
@[simp] theorem State.charge_psapOff (k : Nat) : (s.charge k).psapOff = s.psapOff := rfl
@[simp] theorem State.charge_nspSeg (k : Nat) : (s.charge k).nspSeg = s.nspSeg := rfl
@[simp] theorem State.charge_nspOff (k : Nat) : (s.charge k).nspOff = s.nspOff := rfl
@[simp] theorem State.charge_refresh (k : Nat) : (s.charge k).refresh = s.refresh := rfl
@[simp] theorem State.charge_irqReq (k : Nat) : (s.charge k).irqReq = s.irqReq := rfl
@[simp] theorem State.charge_nmiState (k : Nat) : (s.charge k).nmiState = s.nmiState := rfl
@[simp] theorem State.charge_nmiPrev (k : Nat) : (s.charge k).nmiPrev = s.nmiPrev := rfl
@[simp] theorem State.charge_nviLine (k : Nat) : (s.charge k).nviLine = s.nviLine := rfl
@[simp] theorem State.charge_viLine (k : Nat) : (s.charge k).viLine = s.viLine := rfl
@[simp] theorem State.charge_irqVec (k : Nat) : (s.charge k).irqVec = s.irqVec := rfl
@[simp] theorem State.charge_mi (k : Nat) : (s.charge k).mi = s.mi := rfl
@[simp] theorem State.charge_halt (k : Nat) : (s.charge k).halt = s.halt := rfl
@[simp] theorem State.charge_op (k : Nat) : (s.charge k).op = s.op := rfl
@[simp] theorem State.charge_opValid (k : Nat) : (s.charge k).opValid = s.opValid := rfl
@[simp] theorem State.charge_mem (k : Nat) : (s.charge k).mem = s.mem := rfl
@[simp] theorem State.charge_guards (k : Nat) : (s.charge k).guards = s.guards := rfl
@[simp] theorem State.charge_ioLog (k : Nat) : (s.charge k).ioLog = s.ioLog := rfl
@[simp] theorem State.charge_draws (k : Nat) : (s.charge k).draws = s.draws := rfl

/-! ### `endInstruction` -/

@[simp] theorem State.endInstruction_cfg : (s.endInstruction).cfg = s.cfg := rfl
@[simp] theorem State.endInstruction_regs : (s.endInstruction).regs = s.regs := rfl
@[simp] theorem State.endInstruction_pc : (s.endInstruction).pc = s.pc := rfl
@[simp] theorem State.endInstruction_ppc : (s.endInstruction).ppc = s.ppc := rfl
@[simp] theorem State.endInstruction_fcw : (s.endInstruction).fcw = s.fcw := rfl
@[simp] theorem State.endInstruction_psapSeg : (s.endInstruction).psapSeg = s.psapSeg := rfl
@[simp] theorem State.endInstruction_psapOff : (s.endInstruction).psapOff = s.psapOff := rfl
@[simp] theorem State.endInstruction_nspSeg : (s.endInstruction).nspSeg = s.nspSeg := rfl
@[simp] theorem State.endInstruction_nspOff : (s.endInstruction).nspOff = s.nspOff := rfl
@[simp] theorem State.endInstruction_refresh : (s.endInstruction).refresh = s.refresh := rfl
@[simp] theorem State.endInstruction_irqReq : (s.endInstruction).irqReq = s.irqReq := rfl
@[simp] theorem State.endInstruction_nmiState : (s.endInstruction).nmiState = s.nmiState := rfl
@[simp] theorem State.endInstruction_nmiPrev : (s.endInstruction).nmiPrev = s.nmiPrev := rfl
@[simp] theorem State.endInstruction_nviLine : (s.endInstruction).nviLine = s.nviLine := rfl
@[simp] theorem State.endInstruction_viLine : (s.endInstruction).viLine = s.viLine := rfl
@[simp] theorem State.endInstruction_irqVec : (s.endInstruction).irqVec = s.irqVec := rfl
@[simp] theorem State.endInstruction_mi : (s.endInstruction).mi = s.mi := rfl
@[simp] theorem State.endInstruction_halt : (s.endInstruction).halt = s.halt := rfl
@[simp] theorem State.endInstruction_op : (s.endInstruction).op = s.op := rfl
@[simp] theorem State.endInstruction_totalCycles : (s.endInstruction).totalCycles = s.totalCycles := rfl
@[simp] theorem State.endInstruction_icount : (s.endInstruction).icount = s.icount := rfl
@[simp] theorem State.endInstruction_mem : (s.endInstruction).mem = s.mem := rfl
@[simp] theorem State.endInstruction_guards : (s.endInstruction).guards = s.guards := rfl
@[simp] theorem State.endInstruction_ioLog : (s.endInstruction).ioLog = s.ioLog := rfl
@[simp] theorem State.endInstruction_draws : (s.endInstruction).draws = s.draws := rfl
@[simp] theorem State.endInstruction_rest : (s.endInstruction).rest = s.rest := rfl

/-! ### `pushWord` -/

@[simp] theorem State.pushWord_cfg (n : Reg) (v : Word) : (s.pushWord n v).cfg = s.cfg :=
    by simp only [State.pushWord, State.writeWord_cfg, State.stepPointer_cfg]
@[simp] theorem State.pushWord_pc (n : Reg) (v : Word) : (s.pushWord n v).pc = s.pc :=
    by simp only [State.pushWord, State.writeWord_pc, State.stepPointer_pc]
@[simp] theorem State.pushWord_ppc (n : Reg) (v : Word) : (s.pushWord n v).ppc = s.ppc :=
    by simp only [State.pushWord, State.writeWord_ppc, State.stepPointer_ppc]
@[simp] theorem State.pushWord_fcw (n : Reg) (v : Word) : (s.pushWord n v).fcw = s.fcw :=
    by simp only [State.pushWord, State.writeWord_fcw, State.stepPointer_fcw]
@[simp] theorem State.pushWord_psapSeg (n : Reg) (v : Word) : (s.pushWord n v).psapSeg = s.psapSeg :=
    by simp only [State.pushWord, State.writeWord_psapSeg, State.stepPointer_psapSeg]
@[simp] theorem State.pushWord_psapOff (n : Reg) (v : Word) : (s.pushWord n v).psapOff = s.psapOff :=
    by simp only [State.pushWord, State.writeWord_psapOff, State.stepPointer_psapOff]
@[simp] theorem State.pushWord_nspSeg (n : Reg) (v : Word) : (s.pushWord n v).nspSeg = s.nspSeg :=
    by simp only [State.pushWord, State.writeWord_nspSeg, State.stepPointer_nspSeg]
@[simp] theorem State.pushWord_nspOff (n : Reg) (v : Word) : (s.pushWord n v).nspOff = s.nspOff :=
    by simp only [State.pushWord, State.writeWord_nspOff, State.stepPointer_nspOff]
@[simp] theorem State.pushWord_refresh (n : Reg) (v : Word) : (s.pushWord n v).refresh = s.refresh :=
    by simp only [State.pushWord, State.writeWord_refresh, State.stepPointer_refresh]
@[simp] theorem State.pushWord_nmiState (n : Reg) (v : Word) : (s.pushWord n v).nmiState = s.nmiState :=
    by simp only [State.pushWord, State.writeWord_nmiState, State.stepPointer_nmiState]
@[simp] theorem State.pushWord_nmiPrev (n : Reg) (v : Word) : (s.pushWord n v).nmiPrev = s.nmiPrev :=
    by simp only [State.pushWord, State.writeWord_nmiPrev, State.stepPointer_nmiPrev]
@[simp] theorem State.pushWord_nviLine (n : Reg) (v : Word) : (s.pushWord n v).nviLine = s.nviLine :=
    by simp only [State.pushWord, State.writeWord_nviLine, State.stepPointer_nviLine]
@[simp] theorem State.pushWord_viLine (n : Reg) (v : Word) : (s.pushWord n v).viLine = s.viLine :=
    by simp only [State.pushWord, State.writeWord_viLine, State.stepPointer_viLine]
@[simp] theorem State.pushWord_irqVec (n : Reg) (v : Word) : (s.pushWord n v).irqVec = s.irqVec :=
    by simp only [State.pushWord, State.writeWord_irqVec, State.stepPointer_irqVec]
@[simp] theorem State.pushWord_mi (n : Reg) (v : Word) : (s.pushWord n v).mi = s.mi :=
    by simp only [State.pushWord, State.writeWord_mi, State.stepPointer_mi]
@[simp] theorem State.pushWord_halt (n : Reg) (v : Word) : (s.pushWord n v).halt = s.halt :=
    by simp only [State.pushWord, State.writeWord_halt, State.stepPointer_halt]
@[simp] theorem State.pushWord_op (n : Reg) (v : Word) : (s.pushWord n v).op = s.op :=
    by simp only [State.pushWord, State.writeWord_op, State.stepPointer_op]
@[simp] theorem State.pushWord_opValid (n : Reg) (v : Word) : (s.pushWord n v).opValid = s.opValid :=
    by simp only [State.pushWord, State.writeWord_opValid, State.stepPointer_opValid]
@[simp] theorem State.pushWord_totalCycles (n : Reg) (v : Word) : (s.pushWord n v).totalCycles = s.totalCycles :=
    by simp only [State.pushWord, State.writeWord_totalCycles, State.stepPointer_totalCycles]
@[simp] theorem State.pushWord_icount (n : Reg) (v : Word) : (s.pushWord n v).icount = s.icount :=
    by simp only [State.pushWord, State.writeWord_icount, State.stepPointer_icount]
@[simp] theorem State.pushWord_guards (n : Reg) (v : Word) : (s.pushWord n v).guards = s.guards :=
    by simp only [State.pushWord, State.writeWord_guards, State.stepPointer_guards]
@[simp] theorem State.pushWord_ioLog (n : Reg) (v : Word) : (s.pushWord n v).ioLog = s.ioLog :=
    by simp only [State.pushWord, State.writeWord_ioLog, State.stepPointer_ioLog]
@[simp] theorem State.pushWord_draws (n : Reg) (v : Word) : (s.pushWord n v).draws = s.draws :=
    by simp only [State.pushWord, State.writeWord_draws, State.stepPointer_draws]

/-! ### `pushLong` -/

@[simp] theorem State.pushLong_cfg (n : Reg) (v : Long) : (s.pushLong n v).cfg = s.cfg :=
    by simp only [State.pushLong, State.writeLong_cfg, State.stepPointer_cfg]
@[simp] theorem State.pushLong_pc (n : Reg) (v : Long) : (s.pushLong n v).pc = s.pc :=
    by simp only [State.pushLong, State.writeLong_pc, State.stepPointer_pc]
@[simp] theorem State.pushLong_ppc (n : Reg) (v : Long) : (s.pushLong n v).ppc = s.ppc :=
    by simp only [State.pushLong, State.writeLong_ppc, State.stepPointer_ppc]
@[simp] theorem State.pushLong_fcw (n : Reg) (v : Long) : (s.pushLong n v).fcw = s.fcw :=
    by simp only [State.pushLong, State.writeLong_fcw, State.stepPointer_fcw]
@[simp] theorem State.pushLong_psapSeg (n : Reg) (v : Long) : (s.pushLong n v).psapSeg = s.psapSeg :=
    by simp only [State.pushLong, State.writeLong_psapSeg, State.stepPointer_psapSeg]
@[simp] theorem State.pushLong_psapOff (n : Reg) (v : Long) : (s.pushLong n v).psapOff = s.psapOff :=
    by simp only [State.pushLong, State.writeLong_psapOff, State.stepPointer_psapOff]
@[simp] theorem State.pushLong_nspSeg (n : Reg) (v : Long) : (s.pushLong n v).nspSeg = s.nspSeg :=
    by simp only [State.pushLong, State.writeLong_nspSeg, State.stepPointer_nspSeg]
@[simp] theorem State.pushLong_nspOff (n : Reg) (v : Long) : (s.pushLong n v).nspOff = s.nspOff :=
    by simp only [State.pushLong, State.writeLong_nspOff, State.stepPointer_nspOff]
@[simp] theorem State.pushLong_refresh (n : Reg) (v : Long) : (s.pushLong n v).refresh = s.refresh :=
    by simp only [State.pushLong, State.writeLong_refresh, State.stepPointer_refresh]
@[simp] theorem State.pushLong_nmiState (n : Reg) (v : Long) : (s.pushLong n v).nmiState = s.nmiState :=
    by simp only [State.pushLong, State.writeLong_nmiState, State.stepPointer_nmiState]
@[simp] theorem State.pushLong_nmiPrev (n : Reg) (v : Long) : (s.pushLong n v).nmiPrev = s.nmiPrev :=
    by simp only [State.pushLong, State.writeLong_nmiPrev, State.stepPointer_nmiPrev]
@[simp] theorem State.pushLong_nviLine (n : Reg) (v : Long) : (s.pushLong n v).nviLine = s.nviLine :=
    by simp only [State.pushLong, State.writeLong_nviLine, State.stepPointer_nviLine]
@[simp] theorem State.pushLong_viLine (n : Reg) (v : Long) : (s.pushLong n v).viLine = s.viLine :=
    by simp only [State.pushLong, State.writeLong_viLine, State.stepPointer_viLine]
@[simp] theorem State.pushLong_irqVec (n : Reg) (v : Long) : (s.pushLong n v).irqVec = s.irqVec :=
    by simp only [State.pushLong, State.writeLong_irqVec, State.stepPointer_irqVec]
@[simp] theorem State.pushLong_mi (n : Reg) (v : Long) : (s.pushLong n v).mi = s.mi :=
    by simp only [State.pushLong, State.writeLong_mi, State.stepPointer_mi]
@[simp] theorem State.pushLong_halt (n : Reg) (v : Long) : (s.pushLong n v).halt = s.halt :=
    by simp only [State.pushLong, State.writeLong_halt, State.stepPointer_halt]
@[simp] theorem State.pushLong_op (n : Reg) (v : Long) : (s.pushLong n v).op = s.op :=
    by simp only [State.pushLong, State.writeLong_op, State.stepPointer_op]
@[simp] theorem State.pushLong_opValid (n : Reg) (v : Long) : (s.pushLong n v).opValid = s.opValid :=
    by simp only [State.pushLong, State.writeLong_opValid, State.stepPointer_opValid]
@[simp] theorem State.pushLong_totalCycles (n : Reg) (v : Long) : (s.pushLong n v).totalCycles = s.totalCycles :=
    by simp only [State.pushLong, State.writeLong_totalCycles, State.stepPointer_totalCycles]
@[simp] theorem State.pushLong_icount (n : Reg) (v : Long) : (s.pushLong n v).icount = s.icount :=
    by simp only [State.pushLong, State.writeLong_icount, State.stepPointer_icount]
@[simp] theorem State.pushLong_guards (n : Reg) (v : Long) : (s.pushLong n v).guards = s.guards :=
    by simp only [State.pushLong, State.writeLong_guards, State.stepPointer_guards]
@[simp] theorem State.pushLong_ioLog (n : Reg) (v : Long) : (s.pushLong n v).ioLog = s.ioLog :=
    by simp only [State.pushLong, State.writeLong_ioLog, State.stepPointer_ioLog]
@[simp] theorem State.pushLong_draws (n : Reg) (v : Long) : (s.pushLong n v).draws = s.draws :=
    by simp only [State.pushLong, State.writeLong_draws, State.stepPointer_draws]

/-! ### The fields an update writes -/

@[simp] theorem State.access_irqReq (k : Access) (ns : List Nat) :
    (s.access k ns).irqReq = { s.irqReq with segtrap := s.irqReq.segtrap || ns.any (s.guarded k) } := rfl
@[simp] theorem State.poke_mem (a : Addr) (v : Byte) : (s.poke a v).mem = s.mem.write (s.physical a) v := rfl
@[simp] theorem State.setFlags_fcw (u : FlagUpdate) : (s.setFlags u).fcw = u.apply s.fcw := rfl
@[simp] theorem State.setPc_pc (a : Addr) : (s.setPc a).pc = pcValue s.cfg.variant a := rfl
@[simp] theorem State.fetch_pc : s.fetch.pc = s.addrAdd s.pc 2 := rfl
@[simp] theorem State.fetch_opValid : s.fetch.opValid = s.opValid + 1 := rfl
@[simp] theorem State.ioEvent_ioLog (e : IoEvent) : (s.ioEvent e).ioLog = e :: s.ioLog := rfl
@[simp] theorem State.drawn_draws : s.drawn.draws = s.draws + 1 := rfl
@[simp] theorem State.drawn_rest : s.drawn.rest = s.restDrawn := rfl
@[simp] theorem State.raise_irqReq (c : Cause) : (s.raise c).irqReq = s.irqReq.raise c := rfl
@[simp] theorem State.raise_rest (c : Cause) : (s.raise c).rest = s.restRaised c := rfl
@[simp] theorem State.charge_totalCycles (k : Nat) : (s.charge k).totalCycles = s.totalCycles + k := rfl
@[simp] theorem State.charge_icount (k : Nat) : (s.charge k).icount = s.icount - k := rfl
@[simp] theorem State.endInstruction_opValid : s.endInstruction.opValid = 0 := rfl
@[simp] theorem State.writeByte_mem (r : Role) (a : Addr) (v : Byte) :
    (s.writeByte r a v).mem = s.mem.write (s.physical a) v := rfl

/-! ### `swapStacks` and `changeFcw` -/

@[simp] theorem State.swapStacks_cfg : s.swapStacks.cfg = s.cfg := by
  unfold State.swapStacks; dsimp only; split <;> split <;> rfl
@[simp] theorem State.swapStacks_pc : s.swapStacks.pc = s.pc := by
  unfold State.swapStacks; dsimp only; split <;> split <;> rfl
@[simp] theorem State.swapStacks_ppc : s.swapStacks.ppc = s.ppc := by
  unfold State.swapStacks; dsimp only; split <;> split <;> rfl
@[simp] theorem State.swapStacks_fcw : s.swapStacks.fcw = s.fcw := by
  unfold State.swapStacks; dsimp only; split <;> split <;> rfl
@[simp] theorem State.swapStacks_psapSeg : s.swapStacks.psapSeg = s.psapSeg := by
  unfold State.swapStacks; dsimp only; split <;> split <;> rfl
@[simp] theorem State.swapStacks_psapOff : s.swapStacks.psapOff = s.psapOff := by
  unfold State.swapStacks; dsimp only; split <;> split <;> rfl
@[simp] theorem State.swapStacks_refresh : s.swapStacks.refresh = s.refresh := by
  unfold State.swapStacks; dsimp only; split <;> split <;> rfl
@[simp] theorem State.swapStacks_irqReq : s.swapStacks.irqReq = s.irqReq := by
  unfold State.swapStacks; dsimp only; split <;> split <;> rfl
@[simp] theorem State.swapStacks_nmiState : s.swapStacks.nmiState = s.nmiState := by
  unfold State.swapStacks; dsimp only; split <;> split <;> rfl
@[simp] theorem State.swapStacks_nmiPrev : s.swapStacks.nmiPrev = s.nmiPrev := by
  unfold State.swapStacks; dsimp only; split <;> split <;> rfl
@[simp] theorem State.swapStacks_nviLine : s.swapStacks.nviLine = s.nviLine := by
  unfold State.swapStacks; dsimp only; split <;> split <;> rfl
@[simp] theorem State.swapStacks_viLine : s.swapStacks.viLine = s.viLine := by
  unfold State.swapStacks; dsimp only; split <;> split <;> rfl
@[simp] theorem State.swapStacks_irqVec : s.swapStacks.irqVec = s.irqVec := by
  unfold State.swapStacks; dsimp only; split <;> split <;> rfl
@[simp] theorem State.swapStacks_mi : s.swapStacks.mi = s.mi := by
  unfold State.swapStacks; dsimp only; split <;> split <;> rfl
@[simp] theorem State.swapStacks_halt : s.swapStacks.halt = s.halt := by
  unfold State.swapStacks; dsimp only; split <;> split <;> rfl
@[simp] theorem State.swapStacks_op : s.swapStacks.op = s.op := by
  unfold State.swapStacks; dsimp only; split <;> split <;> rfl
@[simp] theorem State.swapStacks_opValid : s.swapStacks.opValid = s.opValid := by
  unfold State.swapStacks; dsimp only; split <;> split <;> rfl
@[simp] theorem State.swapStacks_totalCycles : s.swapStacks.totalCycles = s.totalCycles := by
  unfold State.swapStacks; dsimp only; split <;> split <;> rfl
@[simp] theorem State.swapStacks_icount : s.swapStacks.icount = s.icount := by
  unfold State.swapStacks; dsimp only; split <;> split <;> rfl
@[simp] theorem State.swapStacks_mem : s.swapStacks.mem = s.mem := by
  unfold State.swapStacks; dsimp only; split <;> split <;> rfl
@[simp] theorem State.swapStacks_guards : s.swapStacks.guards = s.guards := by
  unfold State.swapStacks; dsimp only; split <;> split <;> rfl
@[simp] theorem State.swapStacks_ioLog : s.swapStacks.ioLog = s.ioLog := by
  unfold State.swapStacks; dsimp only; split <;> split <;> rfl
@[simp] theorem State.swapStacks_draws : s.swapStacks.draws = s.draws := by
  unfold State.swapStacks; dsimp only; split <;> split <;> rfl
@[simp] theorem State.changeFcw_cfg (v : Word) : (s.changeFcw v).cfg = s.cfg := by
  unfold State.changeFcw; dsimp only; split <;> simp only [State.swapStacks_cfg]
@[simp] theorem State.changeFcw_pc (v : Word) : (s.changeFcw v).pc = s.pc := by
  unfold State.changeFcw; dsimp only; split <;> simp only [State.swapStacks_pc]
@[simp] theorem State.changeFcw_ppc (v : Word) : (s.changeFcw v).ppc = s.ppc := by
  unfold State.changeFcw; dsimp only; split <;> simp only [State.swapStacks_ppc]
@[simp] theorem State.changeFcw_psapSeg (v : Word) : (s.changeFcw v).psapSeg = s.psapSeg := by
  unfold State.changeFcw; dsimp only; split <;> simp only [State.swapStacks_psapSeg]
@[simp] theorem State.changeFcw_psapOff (v : Word) : (s.changeFcw v).psapOff = s.psapOff := by
  unfold State.changeFcw; dsimp only; split <;> simp only [State.swapStacks_psapOff]
@[simp] theorem State.changeFcw_refresh (v : Word) : (s.changeFcw v).refresh = s.refresh := by
  unfold State.changeFcw; dsimp only; split <;> simp only [State.swapStacks_refresh]
@[simp] theorem State.changeFcw_irqReq (v : Word) : (s.changeFcw v).irqReq = s.irqReq := by
  unfold State.changeFcw; dsimp only; split <;> simp only [State.swapStacks_irqReq]
@[simp] theorem State.changeFcw_nmiState (v : Word) : (s.changeFcw v).nmiState = s.nmiState := by
  unfold State.changeFcw; dsimp only; split <;> simp only [State.swapStacks_nmiState]
@[simp] theorem State.changeFcw_nmiPrev (v : Word) : (s.changeFcw v).nmiPrev = s.nmiPrev := by
  unfold State.changeFcw; dsimp only; split <;> simp only [State.swapStacks_nmiPrev]
@[simp] theorem State.changeFcw_nviLine (v : Word) : (s.changeFcw v).nviLine = s.nviLine := by
  unfold State.changeFcw; dsimp only; split <;> simp only [State.swapStacks_nviLine]
@[simp] theorem State.changeFcw_viLine (v : Word) : (s.changeFcw v).viLine = s.viLine := by
  unfold State.changeFcw; dsimp only; split <;> simp only [State.swapStacks_viLine]
@[simp] theorem State.changeFcw_irqVec (v : Word) : (s.changeFcw v).irqVec = s.irqVec := by
  unfold State.changeFcw; dsimp only; split <;> simp only [State.swapStacks_irqVec]
@[simp] theorem State.changeFcw_mi (v : Word) : (s.changeFcw v).mi = s.mi := by
  unfold State.changeFcw; dsimp only; split <;> simp only [State.swapStacks_mi]
@[simp] theorem State.changeFcw_halt (v : Word) : (s.changeFcw v).halt = s.halt := by
  unfold State.changeFcw; dsimp only; split <;> simp only [State.swapStacks_halt]
@[simp] theorem State.changeFcw_op (v : Word) : (s.changeFcw v).op = s.op := by
  unfold State.changeFcw; dsimp only; split <;> simp only [State.swapStacks_op]
@[simp] theorem State.changeFcw_opValid (v : Word) : (s.changeFcw v).opValid = s.opValid := by
  unfold State.changeFcw; dsimp only; split <;> simp only [State.swapStacks_opValid]
@[simp] theorem State.changeFcw_totalCycles (v : Word) : (s.changeFcw v).totalCycles = s.totalCycles := by
  unfold State.changeFcw; dsimp only; split <;> simp only [State.swapStacks_totalCycles]
@[simp] theorem State.changeFcw_icount (v : Word) : (s.changeFcw v).icount = s.icount := by
  unfold State.changeFcw; dsimp only; split <;> simp only [State.swapStacks_icount]
@[simp] theorem State.changeFcw_mem (v : Word) : (s.changeFcw v).mem = s.mem := by
  unfold State.changeFcw; dsimp only; split <;> simp only [State.swapStacks_mem]
@[simp] theorem State.changeFcw_guards (v : Word) : (s.changeFcw v).guards = s.guards := by
  unfold State.changeFcw; dsimp only; split <;> simp only [State.swapStacks_guards]
@[simp] theorem State.changeFcw_ioLog (v : Word) : (s.changeFcw v).ioLog = s.ioLog := by
  unfold State.changeFcw; dsimp only; split <;> simp only [State.swapStacks_ioLog]
@[simp] theorem State.changeFcw_draws (v : Word) : (s.changeFcw v).draws = s.draws := by
  unfold State.changeFcw; dsimp only; split <;> simp only [State.swapStacks_draws]
@[simp] theorem State.changeFcw_fcw (v : Word) : (s.changeFcw v).fcw = v &&& fcwMask s.cfg.variant := rfl

end Sys2Proof.Machine
end

