-- ==== Sys2Proof/Laws/Memory.lean ====
section
/-!
SUPPORT. Memory: what a read gives after a write, that every memory operation keeps the canonical form, and the same for
byte, word and long accesses of a state (20_memory.md rules R90 to R98).
-/

namespace Sys2Proof.Machine

open Sys2Proof

/-! ### The list -/

theorem Memory.read_erase (m : Memory) (a b : Nat) :
    (m.erase a).read b = if b = a then 0 else m.read b := by
  induction m with
  | nil => simp [Memory.erase, Memory.read]
  | cons c m ih =>
    obtain ⟨x, v⟩ := c
    by_cases hx : x = a <;> by_cases hb : b = a <;> by_cases hxb : x = b <;>
      simp_all [Memory.erase, Memory.read]

theorem Memory.read_insert (m : Memory) (a b : Nat) (v : Byte) (h : m.read a = 0) (hv : m = m.erase a) :
    (m.insert a v).read b = if b = a then v else m.read b := by
  induction m with
  | nil => simp [Memory.insert, Memory.read, eq_comm]
  | cons c m ih =>
    obtain ⟨x, w⟩ := c
    have hx : x ≠ a := by
      intro hx
      subst hx
      have := congrArg List.length hv
      have hle : ∀ l : Memory, (Memory.erase l x).length ≤ l.length := by
        intro l
        induction l with
        | nil => simp [Memory.erase]
        | cons d l ihl =>
          obtain ⟨y, u⟩ := d
          by_cases hy : y = x <;> simp [Memory.erase, hy] <;> omega
      have h2 := hle m
      simp [Memory.erase] at this
      omega
    have hm : m = Memory.erase m a := by simpa [Memory.erase, hx] using hv
    have hr : Memory.read m a = 0 := by simpa [Memory.read, hx] using h
    by_cases hlt : a < x
    · by_cases hb : b = a
      · subst hb; simp [Memory.insert, hlt, Memory.read]
      · simp [Memory.insert, hlt, Memory.read, hb, Ne.symm hb]
    · by_cases hxb : x = b
      · subst hxb; simp [Memory.insert, hlt, Memory.read, hx]
      · simp [Memory.insert, hlt, Memory.read, hxb, ih hr hm]

theorem Memory.erase_erase (m : Memory) (a : Nat) : (m.erase a).erase a = m.erase a := by
  induction m with
  | nil => rfl
  | cons c m ih =>
    obtain ⟨x, v⟩ := c
    by_cases hx : x = a <;> simp [Memory.erase, hx, ih]

/-- A read after a write gives the byte written, and every other address reads as before. -/
@[simp] theorem Memory.read_write (m : Memory) (a b : Nat) (v : Byte) :
    (m.write a v).read b = if b = a then v else m.read b := by
  unfold Memory.write
  split
  · rename_i hv; subst hv; exact Memory.read_erase m a b
  · rw [Memory.read_insert _ a b v (by simp [Memory.read_erase]) (Memory.erase_erase m a).symm, Memory.read_erase]
    split <;> simp_all

theorem Memory.wfFrom_mono {hi lo lo' : Nat} {m : Memory} (h : lo ≤ lo') (hm : Memory.wfFrom hi lo' m = true) :
    Memory.wfFrom hi lo m = true := by
  cases m with
  | nil => rfl
  | cons c m =>
    obtain ⟨x, v⟩ := c
    simp [Memory.wfFrom] at hm ⊢
    exact ⟨⟨⟨by omega, hm.1.1.2⟩, hm.1.2⟩, hm.2⟩

theorem Memory.wfFrom_erase {hi lo : Nat} {m : Memory} (a : Nat) (hm : Memory.wfFrom hi lo m = true) :
    Memory.wfFrom hi lo (m.erase a) = true := by
  induction m generalizing lo with
  | nil => rfl
  | cons c m ih =>
    obtain ⟨x, v⟩ := c
    simp [Memory.wfFrom] at hm
    by_cases hx : x = a
    · simpa [Memory.erase, hx] using Memory.wfFrom_mono (by omega) (ih hm.2)
    · simp [Memory.erase, hx, Memory.wfFrom, hm, ih hm.2]

theorem Memory.wfFrom_insert {hi lo : Nat} {m : Memory} {a : Nat} {v : Byte} (hlo : lo ≤ a) (ha : a < hi)
    (hv : v ≠ 0) (hm : Memory.wfFrom hi lo m = true) (he : Memory.erase m a = m) :
    Memory.wfFrom hi lo (Memory.insert m a v) = true := by
  have hv' : ¬ v = 0#8 := hv
  induction m generalizing lo with
  | nil => simp [Memory.insert, Memory.wfFrom, hlo, ha, hv']
  | cons c m ih =>
    obtain ⟨x, w⟩ := c
    have hx : x ≠ a := by
      intro hx
      subst hx
      have h1 := congrArg (fun l => Memory.read l x) he
      simp [Memory.read_erase, Memory.read] at h1
      simp [Memory.wfFrom] at hm
      exact hm.1.2 h1.symm
    have he' : Memory.erase m a = m := by simpa [Memory.erase, hx] using he
    simp [Memory.wfFrom] at hm
    by_cases hlt : a < x
    · simp [Memory.insert, hlt, Memory.wfFrom, hlo, ha, hv', hm]
    · have : x < a := by omega
      simp [Memory.insert, hlt, Memory.wfFrom, hm, ih (by omega) hm.2 he']

/-- A write below `size` keeps the canonical form. -/
theorem Memory.wf_write {size : Nat} {m : Memory} {a : Nat} {v : Byte} (ha : a < size) (hm : m.wf size = true) :
    (m.write a v).wf size = true := by
  unfold Memory.write Memory.wf at *
  split
  · exact Memory.wfFrom_erase a hm
  · rename_i hv
    exact Memory.wfFrom_insert (Nat.zero_le a) ha hv (Memory.wfFrom_erase a hm) (Memory.erase_erase m a)

/-- In the canonical form two memories that read the same everywhere are the same. -/
theorem Memory.ext_of_wfFrom {hi lo : Nat} {m m' : Memory} (hm : Memory.wfFrom hi lo m = true)
    (hm' : Memory.wfFrom hi lo m' = true) (h : ∀ a, lo ≤ a → m.read a = m'.read a) : m = m' := by
  have low : ∀ (l : Memory) (k b : Nat), Memory.wfFrom hi k l = true → b < k → l.read b = 0 := by
    intro l
    induction l with
    | nil => intros; rfl
    | cons c l ih =>
      obtain ⟨x, v⟩ := c
      intro k b hl hb
      simp [Memory.wfFrom] at hl
      have : x ≠ b := by omega
      simp [Memory.read, this, ih (x + 1) b hl.2 (by omega)]
  induction m generalizing lo m' with
  | nil =>
    cases m' with
    | nil => rfl
    | cons c m' =>
      obtain ⟨x, v⟩ := c
      simp [Memory.wfFrom] at hm'
      have := h x hm'.1.1.1
      simp [Memory.read] at this
      exact absurd this.symm hm'.1.2
  | cons c m ih =>
    obtain ⟨x, v⟩ := c
    cases m' with
    | nil =>
      simp [Memory.wfFrom] at hm
      have := h x hm.1.1.1
      simp [Memory.read] at this
      exact absurd this hm.1.2
    | cons d m' =>
      obtain ⟨y, w⟩ := d
      simp [Memory.wfFrom] at hm hm'
      have hxy : x = y := by
        rcases Nat.lt_trichotomy x y with hlt | heq | hgt
        · have h1 := h x hm.1.1.1
          simp [Memory.read, Nat.ne_of_gt hlt, low m' (y + 1) x hm'.2 (by omega)] at h1
          exact absurd h1 hm.1.2
        · exact heq
        · have h1 := h y hm'.1.1.1
          simp [Memory.read, Nat.ne_of_gt hgt, low m (x + 1) y hm.2 (by omega)] at h1
          exact absurd h1.symm hm'.1.2
      subst hxy
      have hvw : v = w := by simpa [Memory.read] using h x hm.1.1.1
      subst hvw
      rw [ih hm.2 hm'.2 (fun a ha => by
        have h1 := h a (by omega)
        have : x ≠ a := by omega
        simpa [Memory.read, this] using h1)]

end Sys2Proof.Machine
end

