-- ==== Sys2Proof/Laws/Access.lean ====
section
/-!
SUPPORT. Addresses and accesses: what `addr_add` and the alignment of R94 do, what a byte, word or long access of memory
gives after a store and which bytes a store leaves alone, and that a store keeps the canonical form.
-/

namespace Sys2Proof.Machine

open Sys2Proof

variable (s : State)

/-! ### Addresses -/

theorem memorySize_pos (v : Variant) : 0 < memorySize v := by cases v <;> decide

theorem State.physical_lt (a : Addr) : s.physical a < memorySize s.cfg.variant :=
  Nat.mod_lt _ (memorySize_pos _)

theorem wordAlign_getLsbD (a : Addr) (i : Nat) : (wordAlign a).getLsbD i = (a.getLsbD i && decide (i ≠ 0)) := by
  unfold wordAlign
  rcases Nat.lt_or_ge i 23 with h | h
  · rw [BitVec.getLsbD_and, BitVec.getLsbD_not]
    simp [h]
  · simp [BitVec.getLsbD_of_ge, h]

@[simp] theorem wordAlign_wordAlign (a : Addr) : wordAlign (wordAlign a) = wordAlign a := by
  simp [wordAlign, BitVec.and_assoc]

theorem wordAlign_toNat (a : Addr) : (wordAlign a).toNat = a.toNat - a.toNat % 2 := by
  have h : (wordAlign a).toNat % 2 = 0 := by
    have := wordAlign_getLsbD a 0
    simp [BitVec.getLsbD, Nat.testBit_zero] at this
    omega
  have h2 : (wordAlign a).toNat / 2 = a.toNat / 2 := by
    apply Nat.eq_of_testBit_eq
    intro i
    have := wordAlign_getLsbD a (i + 1)
    simpa [BitVec.getLsbD, Nat.testBit_succ] using this
  omega

theorem wordAlign_or_one_toNat (a : Addr) : (wordAlign a ||| 1#23).toNat = (wordAlign a).toNat + 1 := by
  have h : (wordAlign a).toNat % 2 = 0 := by rw [wordAlign_toNat]; omega
  rw [BitVec.toNat_or]
  have h1 : (wordAlign a).toNat = 2 * ((wordAlign a).toNat / 2) := by omega
  apply Nat.eq_of_testBit_eq
  intro i
  cases i with
  | zero => simp [Nat.testBit_zero]; omega
  | succ i =>
    rw [Nat.testBit_or, Nat.testBit_succ, Nat.testBit_succ, Nat.testBit_succ]
    have : ((wordAlign a).toNat + 1) / 2 = (wordAlign a).toNat / 2 := by omega
    simp [this]

/-- The two bytes of a word are at different addresses. -/
theorem State.physical_word_ne (a : Addr) : s.physical (wordAlign a) ≠ s.physical (wordAlign a ||| 1#23) := by
  unfold State.physical
  rw [wordAlign_or_one_toNat]
  have h : (wordAlign a).toNat % 2 = 0 := by rw [wordAlign_toNat]; omega
  cases s.cfg.variant <;> simp [memorySize] <;> omega

/-- `addr_add` moves the offset modulo 2^16 (R96). -/
theorem State.addrAdd_toNat_mod (a : Addr) (k : Word) :
    (s.addrAdd a k).toNat % 65536 = (a.toNat + k.toNat) % 65536 := by
  unfold State.addrAdd
  cases s.cfg.variant <;> simp only <;> rw [append_7_16_toNat, BitVec.toNat_add, BitVec.extractLsb'_toNat] <;>
    simp

@[simp] theorem State.wordAlign_addrAdd_wordAlign (a : Addr) :
    wordAlign (s.addrAdd (wordAlign a) 2) = s.addrAdd (wordAlign a) 2 := by
  have h : (wordAlign a).toNat % 2 = 0 := by rw [wordAlign_toNat]; omega
  have h2 := s.addrAdd_toNat_mod (wordAlign a) 2
  have h3 : (2 : Word).toNat = 2 := rfl
  apply BitVec.eq_of_toNat_eq
  rw [wordAlign_toNat]
  omega

/-- The second word of a long is apart from the first (R98). -/
theorem State.physical_long_ne (a : Addr) :
    ∀ x ∈ s.wordCells (wordAlign a), ∀ y ∈ s.wordCells (s.addrAdd (wordAlign a) 2), x ≠ y := by
  have h0 : (wordAlign a).toNat % 2 = 0 := by rw [wordAlign_toNat]; omega
  have hlt := (wordAlign a).isLt
  have key := s.addrAdd_toNat_mod (wordAlign a) 2
  have h3 : (2 : Word).toNat = 2 := rfl
  have hb := s.wordAlign_addrAdd_wordAlign a
  have hor : (s.addrAdd (wordAlign a) 2 ||| 1#23).toNat = (s.addrAdd (wordAlign a) 2).toNat + 1 := by
    have := wordAlign_or_one_toNat (s.addrAdd (wordAlign a) 2)
    rwa [hb] at this
  intro x hx y hy
  simp only [State.wordCells, wordAlign_wordAlign, hb, State.physical, List.mem_cons, List.not_mem_nil,
    or_false] at hx hy
  rw [wordAlign_or_one_toNat] at hx
  rw [hor] at hy
  cases hv : s.cfg.variant <;> simp only [hv, memorySize] at hx hy <;> omega

theorem State.addrAdd_congr {s t : State} (h : s.cfg = t.cfg) (a : Addr) (k : Word) :
    s.addrAdd a k = t.addrAdd a k := by simp [State.addrAdd, h]

theorem State.physical_congr {s t : State} (h : s.cfg = t.cfg) (a : Addr) : s.physical a = t.physical a := by
  simp [State.physical, h]

/-! ### The bus adaptor (R104, R608) -/

/-- What the adaptor does depends on its entries only. -/
theorem State.guardOf_congr {s t : State} (h : s.guards = t.guards) (k : Access) (n : Nat) :
    s.guardOf k n = t.guardOf k n := by simp [State.guardOf, h]

theorem State.guarded_congr {s t : State} (h : s.guards = t.guards) (k : Access) (n : Nat) :
    s.guarded k n = t.guarded k n := by simp [State.guarded, State.guardOf_congr h]

/-- Any entry that fits makes an access guarded. -/
theorem State.guarded_iff (k : Access) (n : Nat) :
    s.guarded k n = true ↔ ∃ g ∈ s.guards, g.access = k ∧ g.addr = n := by
  simp [State.guarded, State.guardOf, List.find?_isSome]

/-- What an access can do: it may request SEGTRAP, and nothing else changes; none is requested where there is no
adaptor. -/
theorem State.access_cases (k : Access) (ns : List Nat) :
    (s.access k ns = s ∧ ∀ n ∈ ns, s.guarded k n = false) ∨
    (s.access k ns = s.raise .segtrap ∧ ∃ n ∈ ns, s.guarded k n = true) := by
  cases h : ns.any (s.guarded k) with
  | false => exact .inl ⟨by simp only [State.access, h, Bool.or_false], by simpa using h⟩
  | true => exact .inr ⟨by simp only [State.access, h, Bool.or_true]; rfl, by simpa using h⟩

theorem State.access_segtrap (k : Access) (ns : List Nat) :
    (s.access k ns).irqReq.segtrap = (s.irqReq.segtrap || ns.any (s.guarded k)) := rfl

theorem State.guarded_bare {s : State} (h : s.guards = []) (k : Access) (n : Nat) : s.guarded k n = false := by
  simp [State.guarded, State.guardOf, h]

/-- Without an adaptor an access changes nothing. -/
theorem State.access_bare {s : State} (h : s.guards = []) (k : Access) (ns : List Nat) : s.access k ns = s := by
  have : ns.any (s.guarded k) = false := by simp [State.guarded_bare h]
  simp only [State.access, this, Bool.or_false]

theorem State.readByte_bare {s : State} (h : s.guards = []) (r : Role) (a : Addr) :
    s.readByte r a = s.mem.read (s.physical a) := by
  simp [State.readByte, State.guardOf, h]

@[simp] theorem State.bare_guards : s.bare.guards = [] := rfl
@[simp] theorem State.bare_cfg : s.bare.cfg = s.cfg := rfl
@[simp] theorem State.bare_mem : s.bare.mem = s.mem := rfl
@[simp] theorem State.bare_reg (n : Reg) : s.bare.reg n = s.reg n := rfl
@[simp] theorem State.bare_byteReg (k : Reg) : s.bare.byteReg k = s.byteReg k := rfl
@[simp] theorem State.bare_longReg (n : Reg) : s.bare.longReg n = s.longReg n := rfl
@[simp] theorem State.bare_physical (a : Addr) : s.bare.physical a = s.physical a := rfl
@[simp] theorem State.bare_addrAdd (a : Addr) (k : Word) : s.bare.addrAdd a k = s.addrAdd a k := rfl

/-- Without an adaptor a read answers what memory holds. -/
@[simp] theorem State.bare_readByte (r : Role) (a : Addr) : s.bare.readByte r a = s.mem.read (s.physical a) :=
  State.readByte_bare rfl r a

/-! ### Reads after writes -/

/-- A read depends on memory, on the adaptor and on the variant only. -/
theorem State.readByte_congr {s t : State} (hc : s.cfg = t.cfg) (hm : s.mem = t.mem) (hg : s.guards = t.guards)
    (r : Role) (a : Addr) : s.readByte r a = t.readByte r a := by
  rw [State.readByte, State.readByte, State.guardOf_congr hg, State.physical_congr hc, hm]

theorem State.readWord_congr {s t : State} (hc : s.cfg = t.cfg) (hm : s.mem = t.mem) (hg : s.guards = t.guards)
    (r : Role) (a : Addr) : s.readWord r a = t.readWord r a := by
  simp [State.readWord, State.readByte_congr hc hm hg]

theorem State.readLong_congr {s t : State} (hc : s.cfg = t.cfg) (hm : s.mem = t.mem) (hg : s.guards = t.guards)
    (r : Role) (a : Addr) : s.readLong r a = t.readLong r a := by
  simp [State.readLong, State.readWord_congr hc hm hg, State.addrAdd_congr hc]

/-- A byte stored, and every other byte of memory as before. -/
theorem State.writeByte_mem_read (r : Role) (a : Addr) (v : Byte) (b : Nat) :
    (s.writeByte r a v).mem.read b = if b = s.physical a then v else s.mem.read b := by
  rw [State.writeByte_mem, Memory.read_write]

/-- A byte store changes no byte of memory but its own. -/
theorem State.writeByte_read (r : Role) (a : Addr) (v : Byte) {b : Nat} (h : b ∉ s.byteCells a) :
    (s.writeByte r a v).mem.read b = s.mem.read b := by
  simp [State.byteCells] at h
  simp [h]

/-- A word store changes no byte of memory but its two. -/
theorem State.writeWord_read (r : Role) (a : Addr) (v : Word) {b : Nat} (h : b ∉ s.wordCells a) :
    (s.writeWord r a v).mem.read b = s.mem.read b := by
  simp [State.wordCells] at h
  simp [State.writeWord, State.physical_congr (State.writeByte_cfg s r _ _), h]

/-- Memory holds a word after a word store to its address (R93, R94). -/
theorem State.readWord_writeWord (r r' : Role) (a : Addr) (v : Word) :
    (s.writeWord r a v).bare.readWord r' a = v := by
  have hne := s.physical_word_ne a
  have hc := (State.writeByte_cfg (s.writeByte r (wordAlign a) (v.extractLsb' 8 8)) r (wordAlign a ||| 1#23)
    (v.extractLsb' 0 8)).trans (State.writeByte_cfg s r _ _)
  unfold State.readWord State.writeWord
  rw [State.bare_readByte, State.bare_readByte, State.writeByte_mem_read, State.writeByte_mem_read,
    State.writeByte_mem_read]
  simp only [State.physical_congr hc, State.physical_congr (State.writeByte_cfg s r _ _)]
  rw [if_neg hne, if_pos trivial, if_pos trivial]
  exact halves_8 v

/-- A long store changes no byte of memory but its four. -/
theorem State.writeLong_read (r : Role) (a : Addr) (v : Long) {b : Nat} (h : b ∉ s.longCells a) :
    (s.writeLong r a v).mem.read b = s.mem.read b := by
  simp [State.longCells] at h
  unfold State.writeLong
  rw [State.writeWord_read, State.writeWord_read]
  · exact h.1
  · have hc := State.writeWord_cfg s r (wordAlign a) (v.extractLsb' 16 16)
    simpa [State.wordCells, State.physical_congr hc, State.addrAdd_congr hc] using h.2

/-- A word read is not changed by a word store to other bytes. -/
theorem State.readWord_writeWord_other (r r' : Role) (a b : Addr) (v : Word)
    (h : ∀ x ∈ s.wordCells b, x ∉ s.wordCells a) :
    (s.writeWord r a v).readWord r' b = s.readWord r' b := by
  have hc := State.writeWord_cfg s r a v
  have hg := State.guardOf_congr (State.writeWord_guards s r a v)
  have h1 := s.writeWord_read r a v (h (s.physical (wordAlign b)) (by simp [State.wordCells]))
  have h2 := s.writeWord_read r a v (h (s.physical (wordAlign b ||| 1#23)) (by simp [State.wordCells]))
  simp [State.readWord, State.readByte, State.physical_congr hc, hg, h1, h2]

/-- The same of what memory holds. -/
theorem State.bare_readWord_writeWord_other (r r' : Role) (a b : Addr) (v : Word)
    (h : ∀ x ∈ s.wordCells b, x ∉ s.wordCells a) :
    (s.writeWord r a v).bare.readWord r' b = s.bare.readWord r' b := by
  have hc := State.writeWord_cfg s r a v
  have h1 := s.writeWord_read r a v (h (s.physical (wordAlign b)) (by simp [State.wordCells]))
  have h2 := s.writeWord_read r a v (h (s.physical (wordAlign b ||| 1#23)) (by simp [State.wordCells]))
  simp [State.readWord, State.physical_congr hc, h1, h2]

/-- Memory holds a long after a long store to its address (R98). -/
theorem State.readLong_writeLong (r r' : Role) (a : Addr) (v : Long) :
    (s.writeLong r a v).bare.readLong r' a = v := by
  have hc := State.writeWord_cfg s r (wordAlign a) (v.extractLsb' 16 16)
  rw [State.readLong, State.writeLong, State.bare_addrAdd, State.addrAdd_congr ((State.writeWord_cfg _ _ _ _).trans hc),
    State.readWord_writeWord, State.bare_readWord_writeWord_other, State.readWord_writeWord]
  · exact halves_16 v
  · intro x hx hy
    have h := s.physical_long_ne a
    have hx' : x ∈ s.wordCells (wordAlign a) := by simpa [State.wordCells, State.physical_congr hc] using hx
    have hy' : x ∈ s.wordCells (s.addrAdd (wordAlign a) 2) := by
      simpa [State.wordCells, State.physical_congr hc] using hy
    exact h x hx' x hy' rfl

/-! ### The canonical form is kept -/

theorem State.writeByte_wf {size : Nat} (r : Role) (a : Addr) (v : Byte) (hs : memorySize s.cfg.variant ≤ size)
    (h : s.mem.wf size = true) : (s.writeByte r a v).mem.wf size = true :=
  Memory.wf_write (Nat.lt_of_lt_of_le (s.physical_lt a) hs) h

theorem State.writeWord_wf {size : Nat} (r : Role) (a : Addr) (v : Word) (hs : memorySize s.cfg.variant ≤ size)
    (h : s.mem.wf size = true) : (s.writeWord r a v).mem.wf size = true :=
  State.writeByte_wf _ r _ _ (by simpa using hs) (State.writeByte_wf s r _ _ hs h)

theorem State.writeLong_wf {size : Nat} (r : Role) (a : Addr) (v : Long) (hs : memorySize s.cfg.variant ≤ size)
    (h : s.mem.wf size = true) : (s.writeLong r a v).mem.wf size = true :=
  State.writeWord_wf _ r _ _ (by simpa using hs) (State.writeWord_wf s r _ _ hs h)

theorem State.pushWord_wf {size : Nat} (n : Reg) (v : Word) (hs : memorySize s.cfg.variant ≤ size)
    (h : s.mem.wf size = true) : (s.pushWord n v).mem.wf size = true :=
  State.writeWord_wf _ _ _ _ (by simpa using hs) (by simpa using h)

theorem State.pushLong_wf {size : Nat} (n : Reg) (v : Long) (hs : memorySize s.cfg.variant ≤ size)
    (h : s.mem.wf size = true) : (s.pushLong n v).mem.wf size = true :=
  State.writeLong_wf _ _ _ _ (by simpa using hs) (by simpa using h)

theorem State.pushPc_wf {size : Nat} (a : Addr) (hs : memorySize s.cfg.variant ≤ size)
    (h : s.mem.wf size = true) : (s.pushPc a).mem.wf size = true := by
  unfold State.pushPc
  split
  · exact State.pushLong_wf _ _ _ hs h
  · exact State.pushWord_wf _ _ _ hs h

/-- The reset memory is in canonical form. -/
theorem reset_mem_wf : State.reset.mem.wf (memorySize State.reset.cfg.variant) = true := rfl

end Sys2Proof.Machine
end

