-- ==== Sys2Proof/Laws/Reads.lean ====
section
/-!
SUPPORT. What each named update leaves readable: one lemma for each update and read that does not depend on what the
update writes. A lemma `State.<update>_<read>` says that `<read>` after `<update>` is as before.
-/

namespace Sys2Proof.Machine

open Sys2Proof

variable (s : State)

/-! ### `setReg` -/

@[simp] theorem State.setReg_segmented (n : Reg) (v : Word) : State.segmented (s.setReg n v) = s.segmented := by
  simp only [State.segmented, State.setReg_cfg, State.setReg_fcw]
@[simp] theorem State.setReg_system (n : Reg) (v : Word) : State.system (s.setReg n v) = s.system := by
  simp only [State.system, State.setReg_fcw]
@[simp] theorem State.setReg_offsetReg (n : Reg) (v : Word) (m : Reg) :
    State.offsetReg (s.setReg n v) m = s.offsetReg m := by
  simp only [State.offsetReg, State.setReg_segmented]
@[simp] theorem State.setReg_spReg (n : Reg) (v : Word) : State.spReg (s.setReg n v) = s.spReg := by
  simp only [State.spReg, State.setReg_segmented]
@[simp] theorem State.setReg_physical (n : Reg) (v : Word) (b : Addr) :
    State.physical (s.setReg n v) b = s.physical b := by
  simp only [State.physical, State.setReg_cfg]
@[simp] theorem State.setReg_addrAdd (n : Reg) (v : Word) (b : Addr) (d : Word) :
    State.addrAdd (s.setReg n v) b d = s.addrAdd b d := by
  simp only [State.addrAdd, State.setReg_cfg]
@[simp] theorem State.setReg_nonsegAddr (n : Reg) (v : Word) (w : Word) :
    State.nonsegAddr (s.setReg n v) w = s.nonsegAddr w := by
  simp only [State.nonsegAddr, State.setReg_cfg, State.setReg_pc]
@[simp] theorem State.setReg_guardOf (n : Reg) (v : Word) (g : Access) (j : Nat) :
    State.guardOf (s.setReg n v) g j = s.guardOf g j := by
  simp only [State.guardOf, State.setReg_guards]
@[simp] theorem State.setReg_guarded (n : Reg) (v : Word) (g : Access) (j : Nat) :
    State.guarded (s.setReg n v) g j = s.guarded g j := by
  simp only [State.guarded, State.setReg_guardOf]
@[simp] theorem State.setReg_byteCells (n : Reg) (v : Word) (b : Addr) :
    State.byteCells (s.setReg n v) b = s.byteCells b := by
  simp only [State.byteCells, State.setReg_physical]
@[simp] theorem State.setReg_wordCells (n : Reg) (v : Word) (b : Addr) :
    State.wordCells (s.setReg n v) b = s.wordCells b := by
  simp only [State.wordCells, State.setReg_physical]
@[simp] theorem State.setReg_longCells (n : Reg) (v : Word) (b : Addr) :
    State.longCells (s.setReg n v) b = s.longCells b := by
  simp only [State.longCells, State.setReg_wordCells, State.setReg_addrAdd]
@[simp] theorem State.setReg_readByte (n : Reg) (v : Word) (q : Role) (b : Addr) :
    (s.setReg n v).readByte q b = s.readByte q b := by
  simp only [State.readByte, State.setReg_physical, State.setReg_guardOf, State.setReg_mem]
@[simp] theorem State.setReg_readWord (n : Reg) (v : Word) (q : Role) (b : Addr) :
    (s.setReg n v).readWord q b = s.readWord q b := by
  simp only [State.readWord, State.setReg_readByte]
@[simp] theorem State.setReg_readLong (n : Reg) (v : Word) (q : Role) (b : Addr) :
    (s.setReg n v).readLong q b = s.readLong q b := by
  simp only [State.readLong, State.setReg_readWord, State.setReg_addrAdd]

/-! ### `setByteRegAt` -/

@[simp] theorem State.setByteRegAt_segmented (p : ByteRegMap) (k : Reg) (v : Byte) :
    State.segmented (s.setByteRegAt p k v) = s.segmented := by
  simp only [State.segmented, State.setByteRegAt_cfg, State.setByteRegAt_fcw]
@[simp] theorem State.setByteRegAt_system (p : ByteRegMap) (k : Reg) (v : Byte) :
    State.system (s.setByteRegAt p k v) = s.system := by
  simp only [State.system, State.setByteRegAt_fcw]
@[simp] theorem State.setByteRegAt_offsetReg (p : ByteRegMap) (k : Reg) (v : Byte) (m : Reg) :
    State.offsetReg (s.setByteRegAt p k v) m = s.offsetReg m := by
  simp only [State.offsetReg, State.setByteRegAt_segmented]
@[simp] theorem State.setByteRegAt_spReg (p : ByteRegMap) (k : Reg) (v : Byte) :
    State.spReg (s.setByteRegAt p k v) = s.spReg := by
  simp only [State.spReg, State.setByteRegAt_segmented]
@[simp] theorem State.setByteRegAt_physical (p : ByteRegMap) (k : Reg) (v : Byte) (b : Addr) :
    State.physical (s.setByteRegAt p k v) b = s.physical b := by
  simp only [State.physical, State.setByteRegAt_cfg]
@[simp] theorem State.setByteRegAt_addrAdd (p : ByteRegMap) (k : Reg) (v : Byte) (b : Addr) (d : Word) :
    State.addrAdd (s.setByteRegAt p k v) b d = s.addrAdd b d := by
  simp only [State.addrAdd, State.setByteRegAt_cfg]
@[simp] theorem State.setByteRegAt_nonsegAddr (p : ByteRegMap) (k : Reg) (v : Byte) (w : Word) :
    State.nonsegAddr (s.setByteRegAt p k v) w = s.nonsegAddr w := by
  simp only [State.nonsegAddr, State.setByteRegAt_cfg, State.setByteRegAt_pc]
@[simp] theorem State.setByteRegAt_guardOf (p : ByteRegMap) (k : Reg) (v : Byte) (g : Access) (j : Nat) :
    State.guardOf (s.setByteRegAt p k v) g j = s.guardOf g j := by
  simp only [State.guardOf, State.setByteRegAt_guards]
@[simp] theorem State.setByteRegAt_guarded (p : ByteRegMap) (k : Reg) (v : Byte) (g : Access) (j : Nat) :
    State.guarded (s.setByteRegAt p k v) g j = s.guarded g j := by
  simp only [State.guarded, State.setByteRegAt_guardOf]
@[simp] theorem State.setByteRegAt_byteCells (p : ByteRegMap) (k : Reg) (v : Byte) (b : Addr) :
    State.byteCells (s.setByteRegAt p k v) b = s.byteCells b := by
  simp only [State.byteCells, State.setByteRegAt_physical]
@[simp] theorem State.setByteRegAt_wordCells (p : ByteRegMap) (k : Reg) (v : Byte) (b : Addr) :
    State.wordCells (s.setByteRegAt p k v) b = s.wordCells b := by
  simp only [State.wordCells, State.setByteRegAt_physical]
@[simp] theorem State.setByteRegAt_longCells (p : ByteRegMap) (k : Reg) (v : Byte) (b : Addr) :
    State.longCells (s.setByteRegAt p k v) b = s.longCells b := by
  simp only [State.longCells, State.setByteRegAt_wordCells, State.setByteRegAt_addrAdd]
@[simp] theorem State.setByteRegAt_readByte (p : ByteRegMap) (k : Reg) (v : Byte) (q : Role) (b : Addr) :
    (s.setByteRegAt p k v).readByte q b = s.readByte q b := by
  simp only [State.readByte, State.setByteRegAt_physical, State.setByteRegAt_guardOf, State.setByteRegAt_mem]
@[simp] theorem State.setByteRegAt_readWord (p : ByteRegMap) (k : Reg) (v : Byte) (q : Role) (b : Addr) :
    (s.setByteRegAt p k v).readWord q b = s.readWord q b := by
  simp only [State.readWord, State.setByteRegAt_readByte]
@[simp] theorem State.setByteRegAt_readLong (p : ByteRegMap) (k : Reg) (v : Byte) (q : Role) (b : Addr) :
    (s.setByteRegAt p k v).readLong q b = s.readLong q b := by
  simp only [State.readLong, State.setByteRegAt_readWord, State.setByteRegAt_addrAdd]

/-! ### `setByteReg` -/

@[simp] theorem State.setByteReg_segmented (k : Reg) (v : Byte) :
    State.segmented (s.setByteReg k v) = s.segmented := by
  simp only [State.segmented, State.setByteReg_cfg, State.setByteReg_fcw]
@[simp] theorem State.setByteReg_system (k : Reg) (v : Byte) : State.system (s.setByteReg k v) = s.system := by
  simp only [State.system, State.setByteReg_fcw]
@[simp] theorem State.setByteReg_offsetReg (k : Reg) (v : Byte) (m : Reg) :
    State.offsetReg (s.setByteReg k v) m = s.offsetReg m := by
  simp only [State.offsetReg, State.setByteReg_segmented]
@[simp] theorem State.setByteReg_spReg (k : Reg) (v : Byte) : State.spReg (s.setByteReg k v) = s.spReg := by
  simp only [State.spReg, State.setByteReg_segmented]
@[simp] theorem State.setByteReg_physical (k : Reg) (v : Byte) (b : Addr) :
    State.physical (s.setByteReg k v) b = s.physical b := by
  simp only [State.physical, State.setByteReg_cfg]
@[simp] theorem State.setByteReg_addrAdd (k : Reg) (v : Byte) (b : Addr) (d : Word) :
    State.addrAdd (s.setByteReg k v) b d = s.addrAdd b d := by
  simp only [State.addrAdd, State.setByteReg_cfg]
@[simp] theorem State.setByteReg_nonsegAddr (k : Reg) (v : Byte) (w : Word) :
    State.nonsegAddr (s.setByteReg k v) w = s.nonsegAddr w := by
  simp only [State.nonsegAddr, State.setByteReg_cfg, State.setByteReg_pc]
@[simp] theorem State.setByteReg_guardOf (k : Reg) (v : Byte) (g : Access) (j : Nat) :
    State.guardOf (s.setByteReg k v) g j = s.guardOf g j := by
  simp only [State.guardOf, State.setByteReg_guards]
@[simp] theorem State.setByteReg_guarded (k : Reg) (v : Byte) (g : Access) (j : Nat) :
    State.guarded (s.setByteReg k v) g j = s.guarded g j := by
  simp only [State.guarded, State.setByteReg_guardOf]
@[simp] theorem State.setByteReg_byteCells (k : Reg) (v : Byte) (b : Addr) :
    State.byteCells (s.setByteReg k v) b = s.byteCells b := by
  simp only [State.byteCells, State.setByteReg_physical]
@[simp] theorem State.setByteReg_wordCells (k : Reg) (v : Byte) (b : Addr) :
    State.wordCells (s.setByteReg k v) b = s.wordCells b := by
  simp only [State.wordCells, State.setByteReg_physical]
@[simp] theorem State.setByteReg_longCells (k : Reg) (v : Byte) (b : Addr) :
    State.longCells (s.setByteReg k v) b = s.longCells b := by
  simp only [State.longCells, State.setByteReg_wordCells, State.setByteReg_addrAdd]
@[simp] theorem State.setByteReg_readByte (k : Reg) (v : Byte) (q : Role) (b : Addr) :
    (s.setByteReg k v).readByte q b = s.readByte q b := by
  simp only [State.readByte, State.setByteReg_physical, State.setByteReg_guardOf, State.setByteReg_mem]
@[simp] theorem State.setByteReg_readWord (k : Reg) (v : Byte) (q : Role) (b : Addr) :
    (s.setByteReg k v).readWord q b = s.readWord q b := by
  simp only [State.readWord, State.setByteReg_readByte]
@[simp] theorem State.setByteReg_readLong (k : Reg) (v : Byte) (q : Role) (b : Addr) :
    (s.setByteReg k v).readLong q b = s.readLong q b := by
  simp only [State.readLong, State.setByteReg_readWord, State.setByteReg_addrAdd]

/-! ### `setLongReg` -/

@[simp] theorem State.setLongReg_segmented (n : Reg) (v : Long) :
    State.segmented (s.setLongReg n v) = s.segmented := by
  simp only [State.segmented, State.setLongReg_cfg, State.setLongReg_fcw]
@[simp] theorem State.setLongReg_system (n : Reg) (v : Long) : State.system (s.setLongReg n v) = s.system := by
  simp only [State.system, State.setLongReg_fcw]
@[simp] theorem State.setLongReg_offsetReg (n : Reg) (v : Long) (m : Reg) :
    State.offsetReg (s.setLongReg n v) m = s.offsetReg m := by
  simp only [State.offsetReg, State.setLongReg_segmented]
@[simp] theorem State.setLongReg_spReg (n : Reg) (v : Long) : State.spReg (s.setLongReg n v) = s.spReg := by
  simp only [State.spReg, State.setLongReg_segmented]
@[simp] theorem State.setLongReg_physical (n : Reg) (v : Long) (b : Addr) :
    State.physical (s.setLongReg n v) b = s.physical b := by
  simp only [State.physical, State.setLongReg_cfg]
@[simp] theorem State.setLongReg_addrAdd (n : Reg) (v : Long) (b : Addr) (d : Word) :
    State.addrAdd (s.setLongReg n v) b d = s.addrAdd b d := by
  simp only [State.addrAdd, State.setLongReg_cfg]
@[simp] theorem State.setLongReg_nonsegAddr (n : Reg) (v : Long) (w : Word) :
    State.nonsegAddr (s.setLongReg n v) w = s.nonsegAddr w := by
  simp only [State.nonsegAddr, State.setLongReg_cfg, State.setLongReg_pc]
@[simp] theorem State.setLongReg_guardOf (n : Reg) (v : Long) (g : Access) (j : Nat) :
    State.guardOf (s.setLongReg n v) g j = s.guardOf g j := by
  simp only [State.guardOf, State.setLongReg_guards]
@[simp] theorem State.setLongReg_guarded (n : Reg) (v : Long) (g : Access) (j : Nat) :
    State.guarded (s.setLongReg n v) g j = s.guarded g j := by
  simp only [State.guarded, State.setLongReg_guardOf]
@[simp] theorem State.setLongReg_byteCells (n : Reg) (v : Long) (b : Addr) :
    State.byteCells (s.setLongReg n v) b = s.byteCells b := by
  simp only [State.byteCells, State.setLongReg_physical]
@[simp] theorem State.setLongReg_wordCells (n : Reg) (v : Long) (b : Addr) :
    State.wordCells (s.setLongReg n v) b = s.wordCells b := by
  simp only [State.wordCells, State.setLongReg_physical]
@[simp] theorem State.setLongReg_longCells (n : Reg) (v : Long) (b : Addr) :
    State.longCells (s.setLongReg n v) b = s.longCells b := by
  simp only [State.longCells, State.setLongReg_wordCells, State.setLongReg_addrAdd]
@[simp] theorem State.setLongReg_readByte (n : Reg) (v : Long) (q : Role) (b : Addr) :
    (s.setLongReg n v).readByte q b = s.readByte q b := by
  simp only [State.readByte, State.setLongReg_physical, State.setLongReg_guardOf, State.setLongReg_mem]
@[simp] theorem State.setLongReg_readWord (n : Reg) (v : Long) (q : Role) (b : Addr) :
    (s.setLongReg n v).readWord q b = s.readWord q b := by
  simp only [State.readWord, State.setLongReg_readByte]
@[simp] theorem State.setLongReg_readLong (n : Reg) (v : Long) (q : Role) (b : Addr) :
    (s.setLongReg n v).readLong q b = s.readLong q b := by
  simp only [State.readLong, State.setLongReg_readWord, State.setLongReg_addrAdd]

/-! ### `setQuadReg` -/

@[simp] theorem State.setQuadReg_segmented (n : Reg) (v : Quad) :
    State.segmented (s.setQuadReg n v) = s.segmented := by
  simp only [State.segmented, State.setQuadReg_cfg, State.setQuadReg_fcw]
@[simp] theorem State.setQuadReg_system (n : Reg) (v : Quad) : State.system (s.setQuadReg n v) = s.system := by
  simp only [State.system, State.setQuadReg_fcw]
@[simp] theorem State.setQuadReg_offsetReg (n : Reg) (v : Quad) (m : Reg) :
    State.offsetReg (s.setQuadReg n v) m = s.offsetReg m := by
  simp only [State.offsetReg, State.setQuadReg_segmented]
@[simp] theorem State.setQuadReg_spReg (n : Reg) (v : Quad) : State.spReg (s.setQuadReg n v) = s.spReg := by
  simp only [State.spReg, State.setQuadReg_segmented]
@[simp] theorem State.setQuadReg_physical (n : Reg) (v : Quad) (b : Addr) :
    State.physical (s.setQuadReg n v) b = s.physical b := by
  simp only [State.physical, State.setQuadReg_cfg]
@[simp] theorem State.setQuadReg_addrAdd (n : Reg) (v : Quad) (b : Addr) (d : Word) :
    State.addrAdd (s.setQuadReg n v) b d = s.addrAdd b d := by
  simp only [State.addrAdd, State.setQuadReg_cfg]
@[simp] theorem State.setQuadReg_nonsegAddr (n : Reg) (v : Quad) (w : Word) :
    State.nonsegAddr (s.setQuadReg n v) w = s.nonsegAddr w := by
  simp only [State.nonsegAddr, State.setQuadReg_cfg, State.setQuadReg_pc]
@[simp] theorem State.setQuadReg_guardOf (n : Reg) (v : Quad) (g : Access) (j : Nat) :
    State.guardOf (s.setQuadReg n v) g j = s.guardOf g j := by
  simp only [State.guardOf, State.setQuadReg_guards]
@[simp] theorem State.setQuadReg_guarded (n : Reg) (v : Quad) (g : Access) (j : Nat) :
    State.guarded (s.setQuadReg n v) g j = s.guarded g j := by
  simp only [State.guarded, State.setQuadReg_guardOf]
@[simp] theorem State.setQuadReg_byteCells (n : Reg) (v : Quad) (b : Addr) :
    State.byteCells (s.setQuadReg n v) b = s.byteCells b := by
  simp only [State.byteCells, State.setQuadReg_physical]
@[simp] theorem State.setQuadReg_wordCells (n : Reg) (v : Quad) (b : Addr) :
    State.wordCells (s.setQuadReg n v) b = s.wordCells b := by
  simp only [State.wordCells, State.setQuadReg_physical]
@[simp] theorem State.setQuadReg_longCells (n : Reg) (v : Quad) (b : Addr) :
    State.longCells (s.setQuadReg n v) b = s.longCells b := by
  simp only [State.longCells, State.setQuadReg_wordCells, State.setQuadReg_addrAdd]
@[simp] theorem State.setQuadReg_readByte (n : Reg) (v : Quad) (q : Role) (b : Addr) :
    (s.setQuadReg n v).readByte q b = s.readByte q b := by
  simp only [State.readByte, State.setQuadReg_physical, State.setQuadReg_guardOf, State.setQuadReg_mem]
@[simp] theorem State.setQuadReg_readWord (n : Reg) (v : Quad) (q : Role) (b : Addr) :
    (s.setQuadReg n v).readWord q b = s.readWord q b := by
  simp only [State.readWord, State.setQuadReg_readByte]
@[simp] theorem State.setQuadReg_readLong (n : Reg) (v : Quad) (q : Role) (b : Addr) :
    (s.setQuadReg n v).readLong q b = s.readLong q b := by
  simp only [State.readLong, State.setQuadReg_readWord, State.setQuadReg_addrAdd]

/-! ### `stepPointer` -/

@[simp] theorem State.stepPointer_segmented (n : Reg) (k : Word) :
    State.segmented (s.stepPointer n k) = s.segmented := by
  simp only [State.segmented, State.stepPointer_cfg, State.stepPointer_fcw]
@[simp] theorem State.stepPointer_system (n : Reg) (k : Word) : State.system (s.stepPointer n k) = s.system := by
  simp only [State.system, State.stepPointer_fcw]
@[simp] theorem State.stepPointer_offsetReg (n : Reg) (k : Word) (m : Reg) :
    State.offsetReg (s.stepPointer n k) m = s.offsetReg m := by
  simp only [State.offsetReg, State.stepPointer_segmented]
@[simp] theorem State.stepPointer_spReg (n : Reg) (k : Word) : State.spReg (s.stepPointer n k) = s.spReg := by
  simp only [State.spReg, State.stepPointer_segmented]
@[simp] theorem State.stepPointer_physical (n : Reg) (k : Word) (b : Addr) :
    State.physical (s.stepPointer n k) b = s.physical b := by
  simp only [State.physical, State.stepPointer_cfg]
@[simp] theorem State.stepPointer_addrAdd (n : Reg) (k : Word) (b : Addr) (d : Word) :
    State.addrAdd (s.stepPointer n k) b d = s.addrAdd b d := by
  simp only [State.addrAdd, State.stepPointer_cfg]
@[simp] theorem State.stepPointer_nonsegAddr (n : Reg) (k : Word) (w : Word) :
    State.nonsegAddr (s.stepPointer n k) w = s.nonsegAddr w := by
  simp only [State.nonsegAddr, State.stepPointer_cfg, State.stepPointer_pc]
@[simp] theorem State.stepPointer_guardOf (n : Reg) (k : Word) (g : Access) (j : Nat) :
    State.guardOf (s.stepPointer n k) g j = s.guardOf g j := by
  simp only [State.guardOf, State.stepPointer_guards]
@[simp] theorem State.stepPointer_guarded (n : Reg) (k : Word) (g : Access) (j : Nat) :
    State.guarded (s.stepPointer n k) g j = s.guarded g j := by
  simp only [State.guarded, State.stepPointer_guardOf]
@[simp] theorem State.stepPointer_byteCells (n : Reg) (k : Word) (b : Addr) :
    State.byteCells (s.stepPointer n k) b = s.byteCells b := by
  simp only [State.byteCells, State.stepPointer_physical]
@[simp] theorem State.stepPointer_wordCells (n : Reg) (k : Word) (b : Addr) :
    State.wordCells (s.stepPointer n k) b = s.wordCells b := by
  simp only [State.wordCells, State.stepPointer_physical]
@[simp] theorem State.stepPointer_longCells (n : Reg) (k : Word) (b : Addr) :
    State.longCells (s.stepPointer n k) b = s.longCells b := by
  simp only [State.longCells, State.stepPointer_wordCells, State.stepPointer_addrAdd]
@[simp] theorem State.stepPointer_readByte (n : Reg) (k : Word) (q : Role) (b : Addr) :
    (s.stepPointer n k).readByte q b = s.readByte q b := by
  simp only [State.readByte, State.stepPointer_physical, State.stepPointer_guardOf, State.stepPointer_mem]
@[simp] theorem State.stepPointer_readWord (n : Reg) (k : Word) (q : Role) (b : Addr) :
    (s.stepPointer n k).readWord q b = s.readWord q b := by
  simp only [State.readWord, State.stepPointer_readByte]
@[simp] theorem State.stepPointer_readLong (n : Reg) (k : Word) (q : Role) (b : Addr) :
    (s.stepPointer n k).readLong q b = s.readLong q b := by
  simp only [State.readLong, State.stepPointer_readWord, State.stepPointer_addrAdd]

/-! ### `access` -/

@[simp] theorem State.access_reg (k : Access) (ns : List Nat) (m : Reg) : State.reg (s.access k ns) m = s.reg m := by
  simp only [State.reg, State.access_regs]
@[simp] theorem State.access_byteReg (k : Access) (ns : List Nat) (m : Reg) :
    State.byteReg (s.access k ns) m = s.byteReg m := by
  simp only [State.byteReg, State.byteRegAt, State.access_reg, State.access_cfg]
@[simp] theorem State.access_longReg (k : Access) (ns : List Nat) (m : Reg) :
    State.longReg (s.access k ns) m = s.longReg m := by
  simp only [State.longReg, State.access_reg]
@[simp] theorem State.access_quadReg (k : Access) (ns : List Nat) (m : Reg) :
    State.quadReg (s.access k ns) m = s.quadReg m := by
  simp only [State.quadReg, State.access_longReg]
@[simp] theorem State.access_segmented (k : Access) (ns : List Nat) :
    State.segmented (s.access k ns) = s.segmented := by
  simp only [State.segmented, State.access_cfg, State.access_fcw]
@[simp] theorem State.access_system (k : Access) (ns : List Nat) : State.system (s.access k ns) = s.system := by
  simp only [State.system, State.access_fcw]
@[simp] theorem State.access_offsetReg (k : Access) (ns : List Nat) (m : Reg) :
    State.offsetReg (s.access k ns) m = s.offsetReg m := by
  simp only [State.offsetReg, State.access_segmented]
@[simp] theorem State.access_spReg (k : Access) (ns : List Nat) : State.spReg (s.access k ns) = s.spReg := by
  simp only [State.spReg, State.access_segmented]
@[simp] theorem State.access_physical (k : Access) (ns : List Nat) (b : Addr) :
    State.physical (s.access k ns) b = s.physical b := by
  simp only [State.physical, State.access_cfg]
@[simp] theorem State.access_addrAdd (k : Access) (ns : List Nat) (b : Addr) (d : Word) :
    State.addrAdd (s.access k ns) b d = s.addrAdd b d := by
  simp only [State.addrAdd, State.access_cfg]
@[simp] theorem State.access_nonsegAddr (k : Access) (ns : List Nat) (w : Word) :
    State.nonsegAddr (s.access k ns) w = s.nonsegAddr w := by
  simp only [State.nonsegAddr, State.access_cfg, State.access_pc]
@[simp] theorem State.access_pointer (k : Access) (ns : List Nat) (m : Reg) :
    State.pointer (s.access k ns) m = s.pointer m := by
  simp only [State.pointer, State.access_segmented, State.access_reg, State.access_nonsegAddr]
@[simp] theorem State.access_guardOf (k : Access) (ns : List Nat) (g : Access) (j : Nat) :
    State.guardOf (s.access k ns) g j = s.guardOf g j := by
  simp only [State.guardOf, State.access_guards]
@[simp] theorem State.access_guarded (k : Access) (ns : List Nat) (g : Access) (j : Nat) :
    State.guarded (s.access k ns) g j = s.guarded g j := by
  simp only [State.guarded, State.access_guardOf]
@[simp] theorem State.access_byteCells (k : Access) (ns : List Nat) (b : Addr) :
    State.byteCells (s.access k ns) b = s.byteCells b := by
  simp only [State.byteCells, State.access_physical]
@[simp] theorem State.access_wordCells (k : Access) (ns : List Nat) (b : Addr) :
    State.wordCells (s.access k ns) b = s.wordCells b := by
  simp only [State.wordCells, State.access_physical]
@[simp] theorem State.access_longCells (k : Access) (ns : List Nat) (b : Addr) :
    State.longCells (s.access k ns) b = s.longCells b := by
  simp only [State.longCells, State.access_wordCells, State.access_addrAdd]
@[simp] theorem State.access_readByte (k : Access) (ns : List Nat) (q : Role) (b : Addr) :
    (s.access k ns).readByte q b = s.readByte q b := by
  simp only [State.readByte, State.access_physical, State.access_guardOf, State.access_mem]
@[simp] theorem State.access_readWord (k : Access) (ns : List Nat) (q : Role) (b : Addr) :
    (s.access k ns).readWord q b = s.readWord q b := by
  simp only [State.readWord, State.access_readByte]
@[simp] theorem State.access_readLong (k : Access) (ns : List Nat) (q : Role) (b : Addr) :
    (s.access k ns).readLong q b = s.readLong q b := by
  simp only [State.readLong, State.access_readWord, State.access_addrAdd]

/-! ### `touchByte` -/

@[simp] theorem State.touchByte_reg (r : Role) (a : Addr) (m : Reg) : State.reg (s.touchByte r a) m = s.reg m := by
  simp only [State.reg, State.touchByte_regs]
@[simp] theorem State.touchByte_byteReg (r : Role) (a : Addr) (m : Reg) :
    State.byteReg (s.touchByte r a) m = s.byteReg m := by
  simp only [State.byteReg, State.byteRegAt, State.touchByte_reg, State.touchByte_cfg]
@[simp] theorem State.touchByte_longReg (r : Role) (a : Addr) (m : Reg) :
    State.longReg (s.touchByte r a) m = s.longReg m := by
  simp only [State.longReg, State.touchByte_reg]
@[simp] theorem State.touchByte_quadReg (r : Role) (a : Addr) (m : Reg) :
    State.quadReg (s.touchByte r a) m = s.quadReg m := by
  simp only [State.quadReg, State.touchByte_longReg]
@[simp] theorem State.touchByte_segmented (r : Role) (a : Addr) :
    State.segmented (s.touchByte r a) = s.segmented := by
  simp only [State.segmented, State.touchByte_cfg, State.touchByte_fcw]
@[simp] theorem State.touchByte_system (r : Role) (a : Addr) : State.system (s.touchByte r a) = s.system := by
  simp only [State.system, State.touchByte_fcw]
@[simp] theorem State.touchByte_offsetReg (r : Role) (a : Addr) (m : Reg) :
    State.offsetReg (s.touchByte r a) m = s.offsetReg m := by
  simp only [State.offsetReg, State.touchByte_segmented]
@[simp] theorem State.touchByte_spReg (r : Role) (a : Addr) : State.spReg (s.touchByte r a) = s.spReg := by
  simp only [State.spReg, State.touchByte_segmented]
@[simp] theorem State.touchByte_physical (r : Role) (a : Addr) (b : Addr) :
    State.physical (s.touchByte r a) b = s.physical b := by
  simp only [State.physical, State.touchByte_cfg]
@[simp] theorem State.touchByte_addrAdd (r : Role) (a : Addr) (b : Addr) (d : Word) :
    State.addrAdd (s.touchByte r a) b d = s.addrAdd b d := by
  simp only [State.addrAdd, State.touchByte_cfg]
@[simp] theorem State.touchByte_nonsegAddr (r : Role) (a : Addr) (w : Word) :
    State.nonsegAddr (s.touchByte r a) w = s.nonsegAddr w := by
  simp only [State.nonsegAddr, State.touchByte_cfg, State.touchByte_pc]
@[simp] theorem State.touchByte_pointer (r : Role) (a : Addr) (m : Reg) :
    State.pointer (s.touchByte r a) m = s.pointer m := by
  simp only [State.pointer, State.touchByte_segmented, State.touchByte_reg, State.touchByte_nonsegAddr]
@[simp] theorem State.touchByte_guardOf (r : Role) (a : Addr) (g : Access) (j : Nat) :
    State.guardOf (s.touchByte r a) g j = s.guardOf g j := by
  simp only [State.guardOf, State.touchByte_guards]
@[simp] theorem State.touchByte_guarded (r : Role) (a : Addr) (g : Access) (j : Nat) :
    State.guarded (s.touchByte r a) g j = s.guarded g j := by
  simp only [State.guarded, State.touchByte_guardOf]
@[simp] theorem State.touchByte_byteCells (r : Role) (a : Addr) (b : Addr) :
    State.byteCells (s.touchByte r a) b = s.byteCells b := by
  simp only [State.byteCells, State.touchByte_physical]
@[simp] theorem State.touchByte_wordCells (r : Role) (a : Addr) (b : Addr) :
    State.wordCells (s.touchByte r a) b = s.wordCells b := by
  simp only [State.wordCells, State.touchByte_physical]
@[simp] theorem State.touchByte_longCells (r : Role) (a : Addr) (b : Addr) :
    State.longCells (s.touchByte r a) b = s.longCells b := by
  simp only [State.longCells, State.touchByte_wordCells, State.touchByte_addrAdd]
@[simp] theorem State.touchByte_readByte (r : Role) (a : Addr) (q : Role) (b : Addr) :
    (s.touchByte r a).readByte q b = s.readByte q b := by
  simp only [State.readByte, State.touchByte_physical, State.touchByte_guardOf, State.touchByte_mem]
@[simp] theorem State.touchByte_readWord (r : Role) (a : Addr) (q : Role) (b : Addr) :
    (s.touchByte r a).readWord q b = s.readWord q b := by
  simp only [State.readWord, State.touchByte_readByte]
@[simp] theorem State.touchByte_readLong (r : Role) (a : Addr) (q : Role) (b : Addr) :
    (s.touchByte r a).readLong q b = s.readLong q b := by
  simp only [State.readLong, State.touchByte_readWord, State.touchByte_addrAdd]

/-! ### `touchWord` -/

@[simp] theorem State.touchWord_reg (r : Role) (a : Addr) (m : Reg) : State.reg (s.touchWord r a) m = s.reg m := by
  simp only [State.reg, State.touchWord_regs]
@[simp] theorem State.touchWord_byteReg (r : Role) (a : Addr) (m : Reg) :
    State.byteReg (s.touchWord r a) m = s.byteReg m := by
  simp only [State.byteReg, State.byteRegAt, State.touchWord_reg, State.touchWord_cfg]
@[simp] theorem State.touchWord_longReg (r : Role) (a : Addr) (m : Reg) :
    State.longReg (s.touchWord r a) m = s.longReg m := by
  simp only [State.longReg, State.touchWord_reg]
@[simp] theorem State.touchWord_quadReg (r : Role) (a : Addr) (m : Reg) :
    State.quadReg (s.touchWord r a) m = s.quadReg m := by
  simp only [State.quadReg, State.touchWord_longReg]
@[simp] theorem State.touchWord_segmented (r : Role) (a : Addr) :
    State.segmented (s.touchWord r a) = s.segmented := by
  simp only [State.segmented, State.touchWord_cfg, State.touchWord_fcw]
@[simp] theorem State.touchWord_system (r : Role) (a : Addr) : State.system (s.touchWord r a) = s.system := by
  simp only [State.system, State.touchWord_fcw]
@[simp] theorem State.touchWord_offsetReg (r : Role) (a : Addr) (m : Reg) :
    State.offsetReg (s.touchWord r a) m = s.offsetReg m := by
  simp only [State.offsetReg, State.touchWord_segmented]
@[simp] theorem State.touchWord_spReg (r : Role) (a : Addr) : State.spReg (s.touchWord r a) = s.spReg := by
  simp only [State.spReg, State.touchWord_segmented]
@[simp] theorem State.touchWord_physical (r : Role) (a : Addr) (b : Addr) :
    State.physical (s.touchWord r a) b = s.physical b := by
  simp only [State.physical, State.touchWord_cfg]
@[simp] theorem State.touchWord_addrAdd (r : Role) (a : Addr) (b : Addr) (d : Word) :
    State.addrAdd (s.touchWord r a) b d = s.addrAdd b d := by
  simp only [State.addrAdd, State.touchWord_cfg]
@[simp] theorem State.touchWord_nonsegAddr (r : Role) (a : Addr) (w : Word) :
    State.nonsegAddr (s.touchWord r a) w = s.nonsegAddr w := by
  simp only [State.nonsegAddr, State.touchWord_cfg, State.touchWord_pc]
@[simp] theorem State.touchWord_pointer (r : Role) (a : Addr) (m : Reg) :
    State.pointer (s.touchWord r a) m = s.pointer m := by
  simp only [State.pointer, State.touchWord_segmented, State.touchWord_reg, State.touchWord_nonsegAddr]
@[simp] theorem State.touchWord_guardOf (r : Role) (a : Addr) (g : Access) (j : Nat) :
    State.guardOf (s.touchWord r a) g j = s.guardOf g j := by
  simp only [State.guardOf, State.touchWord_guards]
@[simp] theorem State.touchWord_guarded (r : Role) (a : Addr) (g : Access) (j : Nat) :
    State.guarded (s.touchWord r a) g j = s.guarded g j := by
  simp only [State.guarded, State.touchWord_guardOf]
@[simp] theorem State.touchWord_byteCells (r : Role) (a : Addr) (b : Addr) :
    State.byteCells (s.touchWord r a) b = s.byteCells b := by
  simp only [State.byteCells, State.touchWord_physical]
@[simp] theorem State.touchWord_wordCells (r : Role) (a : Addr) (b : Addr) :
    State.wordCells (s.touchWord r a) b = s.wordCells b := by
  simp only [State.wordCells, State.touchWord_physical]
@[simp] theorem State.touchWord_longCells (r : Role) (a : Addr) (b : Addr) :
    State.longCells (s.touchWord r a) b = s.longCells b := by
  simp only [State.longCells, State.touchWord_wordCells, State.touchWord_addrAdd]
@[simp] theorem State.touchWord_readByte (r : Role) (a : Addr) (q : Role) (b : Addr) :
    (s.touchWord r a).readByte q b = s.readByte q b := by
  simp only [State.readByte, State.touchWord_physical, State.touchWord_guardOf, State.touchWord_mem]
@[simp] theorem State.touchWord_readWord (r : Role) (a : Addr) (q : Role) (b : Addr) :
    (s.touchWord r a).readWord q b = s.readWord q b := by
  simp only [State.readWord, State.touchWord_readByte]
@[simp] theorem State.touchWord_readLong (r : Role) (a : Addr) (q : Role) (b : Addr) :
    (s.touchWord r a).readLong q b = s.readLong q b := by
  simp only [State.readLong, State.touchWord_readWord, State.touchWord_addrAdd]

/-! ### `touchLong` -/

@[simp] theorem State.touchLong_reg (r : Role) (a : Addr) (m : Reg) : State.reg (s.touchLong r a) m = s.reg m := by
  simp only [State.reg, State.touchLong_regs]
@[simp] theorem State.touchLong_byteReg (r : Role) (a : Addr) (m : Reg) :
    State.byteReg (s.touchLong r a) m = s.byteReg m := by
  simp only [State.byteReg, State.byteRegAt, State.touchLong_reg, State.touchLong_cfg]
@[simp] theorem State.touchLong_longReg (r : Role) (a : Addr) (m : Reg) :
    State.longReg (s.touchLong r a) m = s.longReg m := by
  simp only [State.longReg, State.touchLong_reg]
@[simp] theorem State.touchLong_quadReg (r : Role) (a : Addr) (m : Reg) :
    State.quadReg (s.touchLong r a) m = s.quadReg m := by
  simp only [State.quadReg, State.touchLong_longReg]
@[simp] theorem State.touchLong_segmented (r : Role) (a : Addr) :
    State.segmented (s.touchLong r a) = s.segmented := by
  simp only [State.segmented, State.touchLong_cfg, State.touchLong_fcw]
@[simp] theorem State.touchLong_system (r : Role) (a : Addr) : State.system (s.touchLong r a) = s.system := by
  simp only [State.system, State.touchLong_fcw]
@[simp] theorem State.touchLong_offsetReg (r : Role) (a : Addr) (m : Reg) :
    State.offsetReg (s.touchLong r a) m = s.offsetReg m := by
  simp only [State.offsetReg, State.touchLong_segmented]
@[simp] theorem State.touchLong_spReg (r : Role) (a : Addr) : State.spReg (s.touchLong r a) = s.spReg := by
  simp only [State.spReg, State.touchLong_segmented]
@[simp] theorem State.touchLong_physical (r : Role) (a : Addr) (b : Addr) :
    State.physical (s.touchLong r a) b = s.physical b := by
  simp only [State.physical, State.touchLong_cfg]
@[simp] theorem State.touchLong_addrAdd (r : Role) (a : Addr) (b : Addr) (d : Word) :
    State.addrAdd (s.touchLong r a) b d = s.addrAdd b d := by
  simp only [State.addrAdd, State.touchLong_cfg]
@[simp] theorem State.touchLong_nonsegAddr (r : Role) (a : Addr) (w : Word) :
    State.nonsegAddr (s.touchLong r a) w = s.nonsegAddr w := by
  simp only [State.nonsegAddr, State.touchLong_cfg, State.touchLong_pc]
@[simp] theorem State.touchLong_pointer (r : Role) (a : Addr) (m : Reg) :
    State.pointer (s.touchLong r a) m = s.pointer m := by
  simp only [State.pointer, State.touchLong_segmented, State.touchLong_reg, State.touchLong_nonsegAddr]
@[simp] theorem State.touchLong_guardOf (r : Role) (a : Addr) (g : Access) (j : Nat) :
    State.guardOf (s.touchLong r a) g j = s.guardOf g j := by
  simp only [State.guardOf, State.touchLong_guards]
@[simp] theorem State.touchLong_guarded (r : Role) (a : Addr) (g : Access) (j : Nat) :
    State.guarded (s.touchLong r a) g j = s.guarded g j := by
  simp only [State.guarded, State.touchLong_guardOf]
@[simp] theorem State.touchLong_byteCells (r : Role) (a : Addr) (b : Addr) :
    State.byteCells (s.touchLong r a) b = s.byteCells b := by
  simp only [State.byteCells, State.touchLong_physical]
@[simp] theorem State.touchLong_wordCells (r : Role) (a : Addr) (b : Addr) :
    State.wordCells (s.touchLong r a) b = s.wordCells b := by
  simp only [State.wordCells, State.touchLong_physical]
@[simp] theorem State.touchLong_longCells (r : Role) (a : Addr) (b : Addr) :
    State.longCells (s.touchLong r a) b = s.longCells b := by
  simp only [State.longCells, State.touchLong_wordCells, State.touchLong_addrAdd]
@[simp] theorem State.touchLong_readByte (r : Role) (a : Addr) (q : Role) (b : Addr) :
    (s.touchLong r a).readByte q b = s.readByte q b := by
  simp only [State.readByte, State.touchLong_physical, State.touchLong_guardOf, State.touchLong_mem]
@[simp] theorem State.touchLong_readWord (r : Role) (a : Addr) (q : Role) (b : Addr) :
    (s.touchLong r a).readWord q b = s.readWord q b := by
  simp only [State.readWord, State.touchLong_readByte]
@[simp] theorem State.touchLong_readLong (r : Role) (a : Addr) (q : Role) (b : Addr) :
    (s.touchLong r a).readLong q b = s.readLong q b := by
  simp only [State.readLong, State.touchLong_readWord, State.touchLong_addrAdd]

/-! ### `dropWord` -/

@[simp] theorem State.dropWord_segmented (p : Reg) : State.segmented (s.dropWord p) = s.segmented := by
  simp only [State.segmented, State.dropWord_cfg, State.dropWord_fcw]
@[simp] theorem State.dropWord_system (p : Reg) : State.system (s.dropWord p) = s.system := by
  simp only [State.system, State.dropWord_fcw]
@[simp] theorem State.dropWord_offsetReg (p : Reg) (m : Reg) : State.offsetReg (s.dropWord p) m = s.offsetReg m := by
  simp only [State.offsetReg, State.dropWord_segmented]
@[simp] theorem State.dropWord_spReg (p : Reg) : State.spReg (s.dropWord p) = s.spReg := by
  simp only [State.spReg, State.dropWord_segmented]
@[simp] theorem State.dropWord_physical (p : Reg) (b : Addr) : State.physical (s.dropWord p) b = s.physical b := by
  simp only [State.physical, State.dropWord_cfg]
@[simp] theorem State.dropWord_addrAdd (p : Reg) (b : Addr) (d : Word) :
    State.addrAdd (s.dropWord p) b d = s.addrAdd b d := by
  simp only [State.addrAdd, State.dropWord_cfg]
@[simp] theorem State.dropWord_nonsegAddr (p : Reg) (w : Word) :
    State.nonsegAddr (s.dropWord p) w = s.nonsegAddr w := by
  simp only [State.nonsegAddr, State.dropWord_cfg, State.dropWord_pc]
@[simp] theorem State.dropWord_guardOf (p : Reg) (g : Access) (j : Nat) :
    State.guardOf (s.dropWord p) g j = s.guardOf g j := by
  simp only [State.guardOf, State.dropWord_guards]
@[simp] theorem State.dropWord_guarded (p : Reg) (g : Access) (j : Nat) :
    State.guarded (s.dropWord p) g j = s.guarded g j := by
  simp only [State.guarded, State.dropWord_guardOf]
@[simp] theorem State.dropWord_byteCells (p : Reg) (b : Addr) : State.byteCells (s.dropWord p) b = s.byteCells b := by
  simp only [State.byteCells, State.dropWord_physical]
@[simp] theorem State.dropWord_wordCells (p : Reg) (b : Addr) : State.wordCells (s.dropWord p) b = s.wordCells b := by
  simp only [State.wordCells, State.dropWord_physical]
@[simp] theorem State.dropWord_longCells (p : Reg) (b : Addr) : State.longCells (s.dropWord p) b = s.longCells b := by
  simp only [State.longCells, State.dropWord_wordCells, State.dropWord_addrAdd]
@[simp] theorem State.dropWord_readByte (p : Reg) (q : Role) (b : Addr) :
    (s.dropWord p).readByte q b = s.readByte q b := by
  simp only [State.readByte, State.dropWord_physical, State.dropWord_guardOf, State.dropWord_mem]
@[simp] theorem State.dropWord_readWord (p : Reg) (q : Role) (b : Addr) :
    (s.dropWord p).readWord q b = s.readWord q b := by
  simp only [State.readWord, State.dropWord_readByte]
@[simp] theorem State.dropWord_readLong (p : Reg) (q : Role) (b : Addr) :
    (s.dropWord p).readLong q b = s.readLong q b := by
  simp only [State.readLong, State.dropWord_readWord, State.dropWord_addrAdd]

/-! ### `dropLong` -/

@[simp] theorem State.dropLong_segmented (p : Reg) : State.segmented (s.dropLong p) = s.segmented := by
  simp only [State.segmented, State.dropLong_cfg, State.dropLong_fcw]
@[simp] theorem State.dropLong_system (p : Reg) : State.system (s.dropLong p) = s.system := by
  simp only [State.system, State.dropLong_fcw]
@[simp] theorem State.dropLong_offsetReg (p : Reg) (m : Reg) : State.offsetReg (s.dropLong p) m = s.offsetReg m := by
  simp only [State.offsetReg, State.dropLong_segmented]
@[simp] theorem State.dropLong_spReg (p : Reg) : State.spReg (s.dropLong p) = s.spReg := by
  simp only [State.spReg, State.dropLong_segmented]
@[simp] theorem State.dropLong_physical (p : Reg) (b : Addr) : State.physical (s.dropLong p) b = s.physical b := by
  simp only [State.physical, State.dropLong_cfg]
@[simp] theorem State.dropLong_addrAdd (p : Reg) (b : Addr) (d : Word) :
    State.addrAdd (s.dropLong p) b d = s.addrAdd b d := by
  simp only [State.addrAdd, State.dropLong_cfg]
@[simp] theorem State.dropLong_nonsegAddr (p : Reg) (w : Word) :
    State.nonsegAddr (s.dropLong p) w = s.nonsegAddr w := by
  simp only [State.nonsegAddr, State.dropLong_cfg, State.dropLong_pc]
@[simp] theorem State.dropLong_guardOf (p : Reg) (g : Access) (j : Nat) :
    State.guardOf (s.dropLong p) g j = s.guardOf g j := by
  simp only [State.guardOf, State.dropLong_guards]
@[simp] theorem State.dropLong_guarded (p : Reg) (g : Access) (j : Nat) :
    State.guarded (s.dropLong p) g j = s.guarded g j := by
  simp only [State.guarded, State.dropLong_guardOf]
@[simp] theorem State.dropLong_byteCells (p : Reg) (b : Addr) : State.byteCells (s.dropLong p) b = s.byteCells b := by
  simp only [State.byteCells, State.dropLong_physical]
@[simp] theorem State.dropLong_wordCells (p : Reg) (b : Addr) : State.wordCells (s.dropLong p) b = s.wordCells b := by
  simp only [State.wordCells, State.dropLong_physical]
@[simp] theorem State.dropLong_longCells (p : Reg) (b : Addr) : State.longCells (s.dropLong p) b = s.longCells b := by
  simp only [State.longCells, State.dropLong_wordCells, State.dropLong_addrAdd]
@[simp] theorem State.dropLong_readByte (p : Reg) (q : Role) (b : Addr) :
    (s.dropLong p).readByte q b = s.readByte q b := by
  simp only [State.readByte, State.dropLong_physical, State.dropLong_guardOf, State.dropLong_mem]
@[simp] theorem State.dropLong_readWord (p : Reg) (q : Role) (b : Addr) :
    (s.dropLong p).readWord q b = s.readWord q b := by
  simp only [State.readWord, State.dropLong_readByte]
@[simp] theorem State.dropLong_readLong (p : Reg) (q : Role) (b : Addr) :
    (s.dropLong p).readLong q b = s.readLong q b := by
  simp only [State.readLong, State.dropLong_readWord, State.dropLong_addrAdd]

/-! ### `poke` -/

@[simp] theorem State.poke_reg (a : Addr) (v : Byte) (m : Reg) : State.reg (s.poke a v) m = s.reg m := by
  simp only [State.reg, State.poke_regs]
@[simp] theorem State.poke_byteReg (a : Addr) (v : Byte) (m : Reg) : State.byteReg (s.poke a v) m = s.byteReg m := by
  simp only [State.byteReg, State.byteRegAt, State.poke_reg, State.poke_cfg]
@[simp] theorem State.poke_longReg (a : Addr) (v : Byte) (m : Reg) : State.longReg (s.poke a v) m = s.longReg m := by
  simp only [State.longReg, State.poke_reg]
@[simp] theorem State.poke_quadReg (a : Addr) (v : Byte) (m : Reg) : State.quadReg (s.poke a v) m = s.quadReg m := by
  simp only [State.quadReg, State.poke_longReg]
@[simp] theorem State.poke_segmented (a : Addr) (v : Byte) : State.segmented (s.poke a v) = s.segmented := by
  simp only [State.segmented, State.poke_cfg, State.poke_fcw]
@[simp] theorem State.poke_system (a : Addr) (v : Byte) : State.system (s.poke a v) = s.system := by
  simp only [State.system, State.poke_fcw]
@[simp] theorem State.poke_offsetReg (a : Addr) (v : Byte) (m : Reg) :
    State.offsetReg (s.poke a v) m = s.offsetReg m := by
  simp only [State.offsetReg, State.poke_segmented]
@[simp] theorem State.poke_spReg (a : Addr) (v : Byte) : State.spReg (s.poke a v) = s.spReg := by
  simp only [State.spReg, State.poke_segmented]
@[simp] theorem State.poke_physical (a : Addr) (v : Byte) (b : Addr) :
    State.physical (s.poke a v) b = s.physical b := by
  simp only [State.physical, State.poke_cfg]
@[simp] theorem State.poke_addrAdd (a : Addr) (v : Byte) (b : Addr) (d : Word) :
    State.addrAdd (s.poke a v) b d = s.addrAdd b d := by
  simp only [State.addrAdd, State.poke_cfg]
@[simp] theorem State.poke_nonsegAddr (a : Addr) (v : Byte) (w : Word) :
    State.nonsegAddr (s.poke a v) w = s.nonsegAddr w := by
  simp only [State.nonsegAddr, State.poke_cfg, State.poke_pc]
@[simp] theorem State.poke_pointer (a : Addr) (v : Byte) (m : Reg) : State.pointer (s.poke a v) m = s.pointer m := by
  simp only [State.pointer, State.poke_segmented, State.poke_reg, State.poke_nonsegAddr]
@[simp] theorem State.poke_guardOf (a : Addr) (v : Byte) (g : Access) (j : Nat) :
    State.guardOf (s.poke a v) g j = s.guardOf g j := by
  simp only [State.guardOf, State.poke_guards]
@[simp] theorem State.poke_guarded (a : Addr) (v : Byte) (g : Access) (j : Nat) :
    State.guarded (s.poke a v) g j = s.guarded g j := by
  simp only [State.guarded, State.poke_guardOf]
@[simp] theorem State.poke_byteCells (a : Addr) (v : Byte) (b : Addr) :
    State.byteCells (s.poke a v) b = s.byteCells b := by
  simp only [State.byteCells, State.poke_physical]
@[simp] theorem State.poke_wordCells (a : Addr) (v : Byte) (b : Addr) :
    State.wordCells (s.poke a v) b = s.wordCells b := by
  simp only [State.wordCells, State.poke_physical]
@[simp] theorem State.poke_longCells (a : Addr) (v : Byte) (b : Addr) :
    State.longCells (s.poke a v) b = s.longCells b := by
  simp only [State.longCells, State.poke_wordCells, State.poke_addrAdd]

/-! ### `writeByte` -/

@[simp] theorem State.writeByte_reg (r : Role) (a : Addr) (v : Byte) (m : Reg) :
    State.reg (s.writeByte r a v) m = s.reg m := by
  simp only [State.reg, State.writeByte_regs]
@[simp] theorem State.writeByte_byteReg (r : Role) (a : Addr) (v : Byte) (m : Reg) :
    State.byteReg (s.writeByte r a v) m = s.byteReg m := by
  simp only [State.byteReg, State.byteRegAt, State.writeByte_reg, State.writeByte_cfg]
@[simp] theorem State.writeByte_longReg (r : Role) (a : Addr) (v : Byte) (m : Reg) :
    State.longReg (s.writeByte r a v) m = s.longReg m := by
  simp only [State.longReg, State.writeByte_reg]
@[simp] theorem State.writeByte_quadReg (r : Role) (a : Addr) (v : Byte) (m : Reg) :
    State.quadReg (s.writeByte r a v) m = s.quadReg m := by
  simp only [State.quadReg, State.writeByte_longReg]
@[simp] theorem State.writeByte_segmented (r : Role) (a : Addr) (v : Byte) :
    State.segmented (s.writeByte r a v) = s.segmented := by
  simp only [State.segmented, State.writeByte_cfg, State.writeByte_fcw]
@[simp] theorem State.writeByte_system (r : Role) (a : Addr) (v : Byte) :
    State.system (s.writeByte r a v) = s.system := by
  simp only [State.system, State.writeByte_fcw]
@[simp] theorem State.writeByte_offsetReg (r : Role) (a : Addr) (v : Byte) (m : Reg) :
    State.offsetReg (s.writeByte r a v) m = s.offsetReg m := by
  simp only [State.offsetReg, State.writeByte_segmented]
@[simp] theorem State.writeByte_spReg (r : Role) (a : Addr) (v : Byte) :
    State.spReg (s.writeByte r a v) = s.spReg := by
  simp only [State.spReg, State.writeByte_segmented]
@[simp] theorem State.writeByte_physical (r : Role) (a : Addr) (v : Byte) (b : Addr) :
    State.physical (s.writeByte r a v) b = s.physical b := by
  simp only [State.physical, State.writeByte_cfg]
@[simp] theorem State.writeByte_addrAdd (r : Role) (a : Addr) (v : Byte) (b : Addr) (d : Word) :
    State.addrAdd (s.writeByte r a v) b d = s.addrAdd b d := by
  simp only [State.addrAdd, State.writeByte_cfg]
@[simp] theorem State.writeByte_nonsegAddr (r : Role) (a : Addr) (v : Byte) (w : Word) :
    State.nonsegAddr (s.writeByte r a v) w = s.nonsegAddr w := by
  simp only [State.nonsegAddr, State.writeByte_cfg, State.writeByte_pc]
@[simp] theorem State.writeByte_pointer (r : Role) (a : Addr) (v : Byte) (m : Reg) :
    State.pointer (s.writeByte r a v) m = s.pointer m := by
  simp only [State.pointer, State.writeByte_segmented, State.writeByte_reg, State.writeByte_nonsegAddr]
@[simp] theorem State.writeByte_guardOf (r : Role) (a : Addr) (v : Byte) (g : Access) (j : Nat) :
    State.guardOf (s.writeByte r a v) g j = s.guardOf g j := by
  simp only [State.guardOf, State.writeByte_guards]
@[simp] theorem State.writeByte_guarded (r : Role) (a : Addr) (v : Byte) (g : Access) (j : Nat) :
    State.guarded (s.writeByte r a v) g j = s.guarded g j := by
  simp only [State.guarded, State.writeByte_guardOf]
@[simp] theorem State.writeByte_byteCells (r : Role) (a : Addr) (v : Byte) (b : Addr) :
    State.byteCells (s.writeByte r a v) b = s.byteCells b := by
  simp only [State.byteCells, State.writeByte_physical]
@[simp] theorem State.writeByte_wordCells (r : Role) (a : Addr) (v : Byte) (b : Addr) :
    State.wordCells (s.writeByte r a v) b = s.wordCells b := by
  simp only [State.wordCells, State.writeByte_physical]
@[simp] theorem State.writeByte_longCells (r : Role) (a : Addr) (v : Byte) (b : Addr) :
    State.longCells (s.writeByte r a v) b = s.longCells b := by
  simp only [State.longCells, State.writeByte_wordCells, State.writeByte_addrAdd]

/-! ### `writeWord` -/

@[simp] theorem State.writeWord_reg (r : Role) (a : Addr) (v : Word) (m : Reg) :
    State.reg (s.writeWord r a v) m = s.reg m := by
  simp only [State.reg, State.writeWord_regs]
@[simp] theorem State.writeWord_byteReg (r : Role) (a : Addr) (v : Word) (m : Reg) :
    State.byteReg (s.writeWord r a v) m = s.byteReg m := by
  simp only [State.byteReg, State.byteRegAt, State.writeWord_reg, State.writeWord_cfg]
@[simp] theorem State.writeWord_longReg (r : Role) (a : Addr) (v : Word) (m : Reg) :
    State.longReg (s.writeWord r a v) m = s.longReg m := by
  simp only [State.longReg, State.writeWord_reg]
@[simp] theorem State.writeWord_quadReg (r : Role) (a : Addr) (v : Word) (m : Reg) :
    State.quadReg (s.writeWord r a v) m = s.quadReg m := by
  simp only [State.quadReg, State.writeWord_longReg]
@[simp] theorem State.writeWord_segmented (r : Role) (a : Addr) (v : Word) :
    State.segmented (s.writeWord r a v) = s.segmented := by
  simp only [State.segmented, State.writeWord_cfg, State.writeWord_fcw]
@[simp] theorem State.writeWord_system (r : Role) (a : Addr) (v : Word) :
    State.system (s.writeWord r a v) = s.system := by
  simp only [State.system, State.writeWord_fcw]
@[simp] theorem State.writeWord_offsetReg (r : Role) (a : Addr) (v : Word) (m : Reg) :
    State.offsetReg (s.writeWord r a v) m = s.offsetReg m := by
  simp only [State.offsetReg, State.writeWord_segmented]
@[simp] theorem State.writeWord_spReg (r : Role) (a : Addr) (v : Word) :
    State.spReg (s.writeWord r a v) = s.spReg := by
  simp only [State.spReg, State.writeWord_segmented]
@[simp] theorem State.writeWord_physical (r : Role) (a : Addr) (v : Word) (b : Addr) :
    State.physical (s.writeWord r a v) b = s.physical b := by
  simp only [State.physical, State.writeWord_cfg]
@[simp] theorem State.writeWord_addrAdd (r : Role) (a : Addr) (v : Word) (b : Addr) (d : Word) :
    State.addrAdd (s.writeWord r a v) b d = s.addrAdd b d := by
  simp only [State.addrAdd, State.writeWord_cfg]
@[simp] theorem State.writeWord_nonsegAddr (r : Role) (a : Addr) (v : Word) (w : Word) :
    State.nonsegAddr (s.writeWord r a v) w = s.nonsegAddr w := by
  simp only [State.nonsegAddr, State.writeWord_cfg, State.writeWord_pc]
@[simp] theorem State.writeWord_pointer (r : Role) (a : Addr) (v : Word) (m : Reg) :
    State.pointer (s.writeWord r a v) m = s.pointer m := by
  simp only [State.pointer, State.writeWord_segmented, State.writeWord_reg, State.writeWord_nonsegAddr]
@[simp] theorem State.writeWord_guardOf (r : Role) (a : Addr) (v : Word) (g : Access) (j : Nat) :
    State.guardOf (s.writeWord r a v) g j = s.guardOf g j := by
  simp only [State.guardOf, State.writeWord_guards]
@[simp] theorem State.writeWord_guarded (r : Role) (a : Addr) (v : Word) (g : Access) (j : Nat) :
    State.guarded (s.writeWord r a v) g j = s.guarded g j := by
  simp only [State.guarded, State.writeWord_guardOf]
@[simp] theorem State.writeWord_byteCells (r : Role) (a : Addr) (v : Word) (b : Addr) :
    State.byteCells (s.writeWord r a v) b = s.byteCells b := by
  simp only [State.byteCells, State.writeWord_physical]
@[simp] theorem State.writeWord_wordCells (r : Role) (a : Addr) (v : Word) (b : Addr) :
    State.wordCells (s.writeWord r a v) b = s.wordCells b := by
  simp only [State.wordCells, State.writeWord_physical]
@[simp] theorem State.writeWord_longCells (r : Role) (a : Addr) (v : Word) (b : Addr) :
    State.longCells (s.writeWord r a v) b = s.longCells b := by
  simp only [State.longCells, State.writeWord_wordCells, State.writeWord_addrAdd]

/-! ### `writeLong` -/

@[simp] theorem State.writeLong_reg (r : Role) (a : Addr) (v : Long) (m : Reg) :
    State.reg (s.writeLong r a v) m = s.reg m := by
  simp only [State.reg, State.writeLong_regs]
@[simp] theorem State.writeLong_byteReg (r : Role) (a : Addr) (v : Long) (m : Reg) :
    State.byteReg (s.writeLong r a v) m = s.byteReg m := by
  simp only [State.byteReg, State.byteRegAt, State.writeLong_reg, State.writeLong_cfg]
@[simp] theorem State.writeLong_longReg (r : Role) (a : Addr) (v : Long) (m : Reg) :
    State.longReg (s.writeLong r a v) m = s.longReg m := by
  simp only [State.longReg, State.writeLong_reg]
@[simp] theorem State.writeLong_quadReg (r : Role) (a : Addr) (v : Long) (m : Reg) :
    State.quadReg (s.writeLong r a v) m = s.quadReg m := by
  simp only [State.quadReg, State.writeLong_longReg]
@[simp] theorem State.writeLong_segmented (r : Role) (a : Addr) (v : Long) :
    State.segmented (s.writeLong r a v) = s.segmented := by
  simp only [State.segmented, State.writeLong_cfg, State.writeLong_fcw]
@[simp] theorem State.writeLong_system (r : Role) (a : Addr) (v : Long) :
    State.system (s.writeLong r a v) = s.system := by
  simp only [State.system, State.writeLong_fcw]
@[simp] theorem State.writeLong_offsetReg (r : Role) (a : Addr) (v : Long) (m : Reg) :
    State.offsetReg (s.writeLong r a v) m = s.offsetReg m := by
  simp only [State.offsetReg, State.writeLong_segmented]
@[simp] theorem State.writeLong_spReg (r : Role) (a : Addr) (v : Long) :
    State.spReg (s.writeLong r a v) = s.spReg := by
  simp only [State.spReg, State.writeLong_segmented]
@[simp] theorem State.writeLong_physical (r : Role) (a : Addr) (v : Long) (b : Addr) :
    State.physical (s.writeLong r a v) b = s.physical b := by
  simp only [State.physical, State.writeLong_cfg]
@[simp] theorem State.writeLong_addrAdd (r : Role) (a : Addr) (v : Long) (b : Addr) (d : Word) :
    State.addrAdd (s.writeLong r a v) b d = s.addrAdd b d := by
  simp only [State.addrAdd, State.writeLong_cfg]
@[simp] theorem State.writeLong_nonsegAddr (r : Role) (a : Addr) (v : Long) (w : Word) :
    State.nonsegAddr (s.writeLong r a v) w = s.nonsegAddr w := by
  simp only [State.nonsegAddr, State.writeLong_cfg, State.writeLong_pc]
@[simp] theorem State.writeLong_pointer (r : Role) (a : Addr) (v : Long) (m : Reg) :
    State.pointer (s.writeLong r a v) m = s.pointer m := by
  simp only [State.pointer, State.writeLong_segmented, State.writeLong_reg, State.writeLong_nonsegAddr]
@[simp] theorem State.writeLong_guardOf (r : Role) (a : Addr) (v : Long) (g : Access) (j : Nat) :
    State.guardOf (s.writeLong r a v) g j = s.guardOf g j := by
  simp only [State.guardOf, State.writeLong_guards]
@[simp] theorem State.writeLong_guarded (r : Role) (a : Addr) (v : Long) (g : Access) (j : Nat) :
    State.guarded (s.writeLong r a v) g j = s.guarded g j := by
  simp only [State.guarded, State.writeLong_guardOf]
@[simp] theorem State.writeLong_byteCells (r : Role) (a : Addr) (v : Long) (b : Addr) :
    State.byteCells (s.writeLong r a v) b = s.byteCells b := by
  simp only [State.byteCells, State.writeLong_physical]
@[simp] theorem State.writeLong_wordCells (r : Role) (a : Addr) (v : Long) (b : Addr) :
    State.wordCells (s.writeLong r a v) b = s.wordCells b := by
  simp only [State.wordCells, State.writeLong_physical]
@[simp] theorem State.writeLong_longCells (r : Role) (a : Addr) (v : Long) (b : Addr) :
    State.longCells (s.writeLong r a v) b = s.longCells b := by
  simp only [State.longCells, State.writeLong_wordCells, State.writeLong_addrAdd]

/-! ### `setFlags` -/

@[simp] theorem State.setFlags_reg (u : FlagUpdate) (m : Reg) : State.reg (s.setFlags u) m = s.reg m := by
  simp only [State.reg, State.setFlags_regs]
@[simp] theorem State.setFlags_byteReg (u : FlagUpdate) (m : Reg) : State.byteReg (s.setFlags u) m = s.byteReg m := by
  simp only [State.byteReg, State.byteRegAt, State.setFlags_reg, State.setFlags_cfg]
@[simp] theorem State.setFlags_longReg (u : FlagUpdate) (m : Reg) : State.longReg (s.setFlags u) m = s.longReg m := by
  simp only [State.longReg, State.setFlags_reg]
@[simp] theorem State.setFlags_quadReg (u : FlagUpdate) (m : Reg) : State.quadReg (s.setFlags u) m = s.quadReg m := by
  simp only [State.quadReg, State.setFlags_longReg]
@[simp] theorem State.setFlags_physical (u : FlagUpdate) (b : Addr) :
    State.physical (s.setFlags u) b = s.physical b := by
  simp only [State.physical, State.setFlags_cfg]
@[simp] theorem State.setFlags_addrAdd (u : FlagUpdate) (b : Addr) (d : Word) :
    State.addrAdd (s.setFlags u) b d = s.addrAdd b d := by
  simp only [State.addrAdd, State.setFlags_cfg]
@[simp] theorem State.setFlags_nonsegAddr (u : FlagUpdate) (w : Word) :
    State.nonsegAddr (s.setFlags u) w = s.nonsegAddr w := by
  simp only [State.nonsegAddr, State.setFlags_cfg, State.setFlags_pc]
@[simp] theorem State.setFlags_guardOf (u : FlagUpdate) (g : Access) (j : Nat) :
    State.guardOf (s.setFlags u) g j = s.guardOf g j := by
  simp only [State.guardOf, State.setFlags_guards]
@[simp] theorem State.setFlags_guarded (u : FlagUpdate) (g : Access) (j : Nat) :
    State.guarded (s.setFlags u) g j = s.guarded g j := by
  simp only [State.guarded, State.setFlags_guardOf]
@[simp] theorem State.setFlags_byteCells (u : FlagUpdate) (b : Addr) :
    State.byteCells (s.setFlags u) b = s.byteCells b := by
  simp only [State.byteCells, State.setFlags_physical]
@[simp] theorem State.setFlags_wordCells (u : FlagUpdate) (b : Addr) :
    State.wordCells (s.setFlags u) b = s.wordCells b := by
  simp only [State.wordCells, State.setFlags_physical]
@[simp] theorem State.setFlags_longCells (u : FlagUpdate) (b : Addr) :
    State.longCells (s.setFlags u) b = s.longCells b := by
  simp only [State.longCells, State.setFlags_wordCells, State.setFlags_addrAdd]
@[simp] theorem State.setFlags_readByte (u : FlagUpdate) (q : Role) (b : Addr) :
    (s.setFlags u).readByte q b = s.readByte q b := by
  simp only [State.readByte, State.setFlags_physical, State.setFlags_guardOf, State.setFlags_mem]
@[simp] theorem State.setFlags_readWord (u : FlagUpdate) (q : Role) (b : Addr) :
    (s.setFlags u).readWord q b = s.readWord q b := by
  simp only [State.readWord, State.setFlags_readByte]
@[simp] theorem State.setFlags_readLong (u : FlagUpdate) (q : Role) (b : Addr) :
    (s.setFlags u).readLong q b = s.readLong q b := by
  simp only [State.readLong, State.setFlags_readWord, State.setFlags_addrAdd]

/-! ### `setPc` -/

@[simp] theorem State.setPc_reg (a : Addr) (m : Reg) : State.reg (s.setPc a) m = s.reg m := by
  simp only [State.reg, State.setPc_regs]
@[simp] theorem State.setPc_byteReg (a : Addr) (m : Reg) : State.byteReg (s.setPc a) m = s.byteReg m := by
  simp only [State.byteReg, State.byteRegAt, State.setPc_reg, State.setPc_cfg]
@[simp] theorem State.setPc_longReg (a : Addr) (m : Reg) : State.longReg (s.setPc a) m = s.longReg m := by
  simp only [State.longReg, State.setPc_reg]
@[simp] theorem State.setPc_quadReg (a : Addr) (m : Reg) : State.quadReg (s.setPc a) m = s.quadReg m := by
  simp only [State.quadReg, State.setPc_longReg]
@[simp] theorem State.setPc_segmented (a : Addr) : State.segmented (s.setPc a) = s.segmented := by
  simp only [State.segmented, State.setPc_cfg, State.setPc_fcw]
@[simp] theorem State.setPc_system (a : Addr) : State.system (s.setPc a) = s.system := by
  simp only [State.system, State.setPc_fcw]
@[simp] theorem State.setPc_offsetReg (a : Addr) (m : Reg) : State.offsetReg (s.setPc a) m = s.offsetReg m := by
  simp only [State.offsetReg, State.setPc_segmented]
@[simp] theorem State.setPc_spReg (a : Addr) : State.spReg (s.setPc a) = s.spReg := by
  simp only [State.spReg, State.setPc_segmented]
@[simp] theorem State.setPc_physical (a : Addr) (b : Addr) : State.physical (s.setPc a) b = s.physical b := by
  simp only [State.physical, State.setPc_cfg]
@[simp] theorem State.setPc_addrAdd (a : Addr) (b : Addr) (d : Word) :
    State.addrAdd (s.setPc a) b d = s.addrAdd b d := by
  simp only [State.addrAdd, State.setPc_cfg]
@[simp] theorem State.setPc_guardOf (a : Addr) (g : Access) (j : Nat) :
    State.guardOf (s.setPc a) g j = s.guardOf g j := by
  simp only [State.guardOf, State.setPc_guards]
@[simp] theorem State.setPc_guarded (a : Addr) (g : Access) (j : Nat) :
    State.guarded (s.setPc a) g j = s.guarded g j := by
  simp only [State.guarded, State.setPc_guardOf]
@[simp] theorem State.setPc_byteCells (a : Addr) (b : Addr) : State.byteCells (s.setPc a) b = s.byteCells b := by
  simp only [State.byteCells, State.setPc_physical]
@[simp] theorem State.setPc_wordCells (a : Addr) (b : Addr) : State.wordCells (s.setPc a) b = s.wordCells b := by
  simp only [State.wordCells, State.setPc_physical]
@[simp] theorem State.setPc_longCells (a : Addr) (b : Addr) : State.longCells (s.setPc a) b = s.longCells b := by
  simp only [State.longCells, State.setPc_wordCells, State.setPc_addrAdd]
@[simp] theorem State.setPc_readByte (a : Addr) (q : Role) (b : Addr) :
    (s.setPc a).readByte q b = s.readByte q b := by
  simp only [State.readByte, State.setPc_physical, State.setPc_guardOf, State.setPc_mem]
@[simp] theorem State.setPc_readWord (a : Addr) (q : Role) (b : Addr) :
    (s.setPc a).readWord q b = s.readWord q b := by
  simp only [State.readWord, State.setPc_readByte]
@[simp] theorem State.setPc_readLong (a : Addr) (q : Role) (b : Addr) :
    (s.setPc a).readLong q b = s.readLong q b := by
  simp only [State.readLong, State.setPc_readWord, State.setPc_addrAdd]

/-! ### `fetch` -/

@[simp] theorem State.fetch_reg (m : Reg) : State.reg (s.fetch) m = s.reg m := by
  simp only [State.reg, State.fetch_regs]
@[simp] theorem State.fetch_byteReg (m : Reg) : State.byteReg (s.fetch) m = s.byteReg m := by
  simp only [State.byteReg, State.byteRegAt, State.fetch_reg, State.fetch_cfg]
@[simp] theorem State.fetch_longReg (m : Reg) : State.longReg (s.fetch) m = s.longReg m := by
  simp only [State.longReg, State.fetch_reg]
@[simp] theorem State.fetch_quadReg (m : Reg) : State.quadReg (s.fetch) m = s.quadReg m := by
  simp only [State.quadReg, State.fetch_longReg]
@[simp] theorem State.fetch_segmented : State.segmented (s.fetch) = s.segmented := by
  simp only [State.segmented, State.fetch_cfg, State.fetch_fcw]
@[simp] theorem State.fetch_system : State.system (s.fetch) = s.system := by simp only [State.system, State.fetch_fcw]
@[simp] theorem State.fetch_offsetReg (m : Reg) : State.offsetReg (s.fetch) m = s.offsetReg m := by
  simp only [State.offsetReg, State.fetch_segmented]
@[simp] theorem State.fetch_spReg : State.spReg (s.fetch) = s.spReg := by
  simp only [State.spReg, State.fetch_segmented]
@[simp] theorem State.fetch_physical (b : Addr) : State.physical (s.fetch) b = s.physical b := by
  simp only [State.physical, State.fetch_cfg]
@[simp] theorem State.fetch_addrAdd (b : Addr) (d : Word) : State.addrAdd (s.fetch) b d = s.addrAdd b d := by
  simp only [State.addrAdd, State.fetch_cfg]
@[simp] theorem State.fetch_guardOf (g : Access) (j : Nat) : State.guardOf (s.fetch) g j = s.guardOf g j := by
  simp only [State.guardOf, State.fetch_guards]
@[simp] theorem State.fetch_guarded (g : Access) (j : Nat) : State.guarded (s.fetch) g j = s.guarded g j := by
  simp only [State.guarded, State.fetch_guardOf]
@[simp] theorem State.fetch_byteCells (b : Addr) : State.byteCells (s.fetch) b = s.byteCells b := by
  simp only [State.byteCells, State.fetch_physical]
@[simp] theorem State.fetch_wordCells (b : Addr) : State.wordCells (s.fetch) b = s.wordCells b := by
  simp only [State.wordCells, State.fetch_physical]
@[simp] theorem State.fetch_longCells (b : Addr) : State.longCells (s.fetch) b = s.longCells b := by
  simp only [State.longCells, State.fetch_wordCells, State.fetch_addrAdd]
@[simp] theorem State.fetch_readByte (q : Role) (b : Addr) : (s.fetch).readByte q b = s.readByte q b := by
  simp only [State.readByte, State.fetch_physical, State.fetch_guardOf, State.fetch_mem]
@[simp] theorem State.fetch_readWord (q : Role) (b : Addr) : (s.fetch).readWord q b = s.readWord q b := by
  simp only [State.readWord, State.fetch_readByte]
@[simp] theorem State.fetch_readLong (q : Role) (b : Addr) : (s.fetch).readLong q b = s.readLong q b := by
  simp only [State.readLong, State.fetch_readWord, State.fetch_addrAdd]

/-! ### `ioEvent` -/

@[simp] theorem State.ioEvent_reg (e : IoEvent) (m : Reg) : State.reg (s.ioEvent e) m = s.reg m := by
  simp only [State.reg, State.ioEvent_regs]
@[simp] theorem State.ioEvent_byteReg (e : IoEvent) (m : Reg) : State.byteReg (s.ioEvent e) m = s.byteReg m := by
  simp only [State.byteReg, State.byteRegAt, State.ioEvent_reg, State.ioEvent_cfg]
@[simp] theorem State.ioEvent_longReg (e : IoEvent) (m : Reg) : State.longReg (s.ioEvent e) m = s.longReg m := by
  simp only [State.longReg, State.ioEvent_reg]
@[simp] theorem State.ioEvent_quadReg (e : IoEvent) (m : Reg) : State.quadReg (s.ioEvent e) m = s.quadReg m := by
  simp only [State.quadReg, State.ioEvent_longReg]
@[simp] theorem State.ioEvent_segmented (e : IoEvent) : State.segmented (s.ioEvent e) = s.segmented := by
  simp only [State.segmented, State.ioEvent_cfg, State.ioEvent_fcw]
@[simp] theorem State.ioEvent_system (e : IoEvent) : State.system (s.ioEvent e) = s.system := by
  simp only [State.system, State.ioEvent_fcw]
@[simp] theorem State.ioEvent_offsetReg (e : IoEvent) (m : Reg) :
    State.offsetReg (s.ioEvent e) m = s.offsetReg m := by
  simp only [State.offsetReg, State.ioEvent_segmented]
@[simp] theorem State.ioEvent_spReg (e : IoEvent) : State.spReg (s.ioEvent e) = s.spReg := by
  simp only [State.spReg, State.ioEvent_segmented]
@[simp] theorem State.ioEvent_physical (e : IoEvent) (b : Addr) : State.physical (s.ioEvent e) b = s.physical b := by
  simp only [State.physical, State.ioEvent_cfg]
@[simp] theorem State.ioEvent_addrAdd (e : IoEvent) (b : Addr) (d : Word) :
    State.addrAdd (s.ioEvent e) b d = s.addrAdd b d := by
  simp only [State.addrAdd, State.ioEvent_cfg]
@[simp] theorem State.ioEvent_nonsegAddr (e : IoEvent) (w : Word) :
    State.nonsegAddr (s.ioEvent e) w = s.nonsegAddr w := by
  simp only [State.nonsegAddr, State.ioEvent_cfg, State.ioEvent_pc]
@[simp] theorem State.ioEvent_pointer (e : IoEvent) (m : Reg) : State.pointer (s.ioEvent e) m = s.pointer m := by
  simp only [State.pointer, State.ioEvent_segmented, State.ioEvent_reg, State.ioEvent_nonsegAddr]
@[simp] theorem State.ioEvent_guardOf (e : IoEvent) (g : Access) (j : Nat) :
    State.guardOf (s.ioEvent e) g j = s.guardOf g j := by
  simp only [State.guardOf, State.ioEvent_guards]
@[simp] theorem State.ioEvent_guarded (e : IoEvent) (g : Access) (j : Nat) :
    State.guarded (s.ioEvent e) g j = s.guarded g j := by
  simp only [State.guarded, State.ioEvent_guardOf]
@[simp] theorem State.ioEvent_byteCells (e : IoEvent) (b : Addr) :
    State.byteCells (s.ioEvent e) b = s.byteCells b := by
  simp only [State.byteCells, State.ioEvent_physical]
@[simp] theorem State.ioEvent_wordCells (e : IoEvent) (b : Addr) :
    State.wordCells (s.ioEvent e) b = s.wordCells b := by
  simp only [State.wordCells, State.ioEvent_physical]
@[simp] theorem State.ioEvent_longCells (e : IoEvent) (b : Addr) :
    State.longCells (s.ioEvent e) b = s.longCells b := by
  simp only [State.longCells, State.ioEvent_wordCells, State.ioEvent_addrAdd]
@[simp] theorem State.ioEvent_readByte (e : IoEvent) (q : Role) (b : Addr) :
    (s.ioEvent e).readByte q b = s.readByte q b := by
  simp only [State.readByte, State.ioEvent_physical, State.ioEvent_guardOf, State.ioEvent_mem]
@[simp] theorem State.ioEvent_readWord (e : IoEvent) (q : Role) (b : Addr) :
    (s.ioEvent e).readWord q b = s.readWord q b := by
  simp only [State.readWord, State.ioEvent_readByte]
@[simp] theorem State.ioEvent_readLong (e : IoEvent) (q : Role) (b : Addr) :
    (s.ioEvent e).readLong q b = s.readLong q b := by
  simp only [State.readLong, State.ioEvent_readWord, State.ioEvent_addrAdd]

/-! ### `drawn` -/

@[simp] theorem State.drawn_reg (m : Reg) : State.reg (s.drawn) m = s.reg m := by
  simp only [State.reg, State.drawn_regs]
@[simp] theorem State.drawn_byteReg (m : Reg) : State.byteReg (s.drawn) m = s.byteReg m := by
  simp only [State.byteReg, State.byteRegAt, State.drawn_reg, State.drawn_cfg]
@[simp] theorem State.drawn_longReg (m : Reg) : State.longReg (s.drawn) m = s.longReg m := by
  simp only [State.longReg, State.drawn_reg]
@[simp] theorem State.drawn_quadReg (m : Reg) : State.quadReg (s.drawn) m = s.quadReg m := by
  simp only [State.quadReg, State.drawn_longReg]
@[simp] theorem State.drawn_segmented : State.segmented (s.drawn) = s.segmented := by
  simp only [State.segmented, State.drawn_cfg, State.drawn_fcw]
@[simp] theorem State.drawn_system : State.system (s.drawn) = s.system := by simp only [State.system, State.drawn_fcw]
@[simp] theorem State.drawn_offsetReg (m : Reg) : State.offsetReg (s.drawn) m = s.offsetReg m := by
  simp only [State.offsetReg, State.drawn_segmented]
@[simp] theorem State.drawn_spReg : State.spReg (s.drawn) = s.spReg := by
  simp only [State.spReg, State.drawn_segmented]
@[simp] theorem State.drawn_physical (b : Addr) : State.physical (s.drawn) b = s.physical b := by
  simp only [State.physical, State.drawn_cfg]
@[simp] theorem State.drawn_addrAdd (b : Addr) (d : Word) : State.addrAdd (s.drawn) b d = s.addrAdd b d := by
  simp only [State.addrAdd, State.drawn_cfg]
@[simp] theorem State.drawn_nonsegAddr (w : Word) : State.nonsegAddr (s.drawn) w = s.nonsegAddr w := by
  simp only [State.nonsegAddr, State.drawn_cfg, State.drawn_pc]
@[simp] theorem State.drawn_pointer (m : Reg) : State.pointer (s.drawn) m = s.pointer m := by
  simp only [State.pointer, State.drawn_segmented, State.drawn_reg, State.drawn_nonsegAddr]
@[simp] theorem State.drawn_guardOf (g : Access) (j : Nat) : State.guardOf (s.drawn) g j = s.guardOf g j := by
  simp only [State.guardOf, State.drawn_guards]
@[simp] theorem State.drawn_guarded (g : Access) (j : Nat) : State.guarded (s.drawn) g j = s.guarded g j := by
  simp only [State.guarded, State.drawn_guardOf]
@[simp] theorem State.drawn_byteCells (b : Addr) : State.byteCells (s.drawn) b = s.byteCells b := by
  simp only [State.byteCells, State.drawn_physical]
@[simp] theorem State.drawn_wordCells (b : Addr) : State.wordCells (s.drawn) b = s.wordCells b := by
  simp only [State.wordCells, State.drawn_physical]
@[simp] theorem State.drawn_longCells (b : Addr) : State.longCells (s.drawn) b = s.longCells b := by
  simp only [State.longCells, State.drawn_wordCells, State.drawn_addrAdd]
@[simp] theorem State.drawn_readByte (q : Role) (b : Addr) : (s.drawn).readByte q b = s.readByte q b := by
  simp only [State.readByte, State.drawn_physical, State.drawn_guardOf, State.drawn_mem]
@[simp] theorem State.drawn_readWord (q : Role) (b : Addr) : (s.drawn).readWord q b = s.readWord q b := by
  simp only [State.readWord, State.drawn_readByte]
@[simp] theorem State.drawn_readLong (q : Role) (b : Addr) : (s.drawn).readLong q b = s.readLong q b := by
  simp only [State.readLong, State.drawn_readWord, State.drawn_addrAdd]

/-! ### `raise` -/

@[simp] theorem State.raise_reg (c : Cause) (m : Reg) : State.reg (s.raise c) m = s.reg m := by
  simp only [State.reg, State.raise_regs]
@[simp] theorem State.raise_byteReg (c : Cause) (m : Reg) : State.byteReg (s.raise c) m = s.byteReg m := by
  simp only [State.byteReg, State.byteRegAt, State.raise_reg, State.raise_cfg]
@[simp] theorem State.raise_longReg (c : Cause) (m : Reg) : State.longReg (s.raise c) m = s.longReg m := by
  simp only [State.longReg, State.raise_reg]
@[simp] theorem State.raise_quadReg (c : Cause) (m : Reg) : State.quadReg (s.raise c) m = s.quadReg m := by
  simp only [State.quadReg, State.raise_longReg]
@[simp] theorem State.raise_segmented (c : Cause) : State.segmented (s.raise c) = s.segmented := by
  simp only [State.segmented, State.raise_cfg, State.raise_fcw]
@[simp] theorem State.raise_system (c : Cause) : State.system (s.raise c) = s.system := by
  simp only [State.system, State.raise_fcw]
@[simp] theorem State.raise_offsetReg (c : Cause) (m : Reg) : State.offsetReg (s.raise c) m = s.offsetReg m := by
  simp only [State.offsetReg, State.raise_segmented]
@[simp] theorem State.raise_spReg (c : Cause) : State.spReg (s.raise c) = s.spReg := by
  simp only [State.spReg, State.raise_segmented]
@[simp] theorem State.raise_physical (c : Cause) (b : Addr) : State.physical (s.raise c) b = s.physical b := by
  simp only [State.physical, State.raise_cfg]
@[simp] theorem State.raise_addrAdd (c : Cause) (b : Addr) (d : Word) :
    State.addrAdd (s.raise c) b d = s.addrAdd b d := by
  simp only [State.addrAdd, State.raise_cfg]
@[simp] theorem State.raise_nonsegAddr (c : Cause) (w : Word) : State.nonsegAddr (s.raise c) w = s.nonsegAddr w := by
  simp only [State.nonsegAddr, State.raise_cfg, State.raise_pc]
@[simp] theorem State.raise_pointer (c : Cause) (m : Reg) : State.pointer (s.raise c) m = s.pointer m := by
  simp only [State.pointer, State.raise_segmented, State.raise_reg, State.raise_nonsegAddr]
@[simp] theorem State.raise_guardOf (c : Cause) (g : Access) (j : Nat) :
    State.guardOf (s.raise c) g j = s.guardOf g j := by
  simp only [State.guardOf, State.raise_guards]
@[simp] theorem State.raise_guarded (c : Cause) (g : Access) (j : Nat) :
    State.guarded (s.raise c) g j = s.guarded g j := by
  simp only [State.guarded, State.raise_guardOf]
@[simp] theorem State.raise_byteCells (c : Cause) (b : Addr) : State.byteCells (s.raise c) b = s.byteCells b := by
  simp only [State.byteCells, State.raise_physical]
@[simp] theorem State.raise_wordCells (c : Cause) (b : Addr) : State.wordCells (s.raise c) b = s.wordCells b := by
  simp only [State.wordCells, State.raise_physical]
@[simp] theorem State.raise_longCells (c : Cause) (b : Addr) : State.longCells (s.raise c) b = s.longCells b := by
  simp only [State.longCells, State.raise_wordCells, State.raise_addrAdd]
@[simp] theorem State.raise_readByte (c : Cause) (q : Role) (b : Addr) :
    (s.raise c).readByte q b = s.readByte q b := by
  simp only [State.readByte, State.raise_physical, State.raise_guardOf, State.raise_mem]
@[simp] theorem State.raise_readWord (c : Cause) (q : Role) (b : Addr) :
    (s.raise c).readWord q b = s.readWord q b := by
  simp only [State.readWord, State.raise_readByte]
@[simp] theorem State.raise_readLong (c : Cause) (q : Role) (b : Addr) :
    (s.raise c).readLong q b = s.readLong q b := by
  simp only [State.readLong, State.raise_readWord, State.raise_addrAdd]

/-! ### `charge` -/

@[simp] theorem State.charge_reg (k : Nat) (m : Reg) : State.reg (s.charge k) m = s.reg m := by
  simp only [State.reg, State.charge_regs]
@[simp] theorem State.charge_byteReg (k : Nat) (m : Reg) : State.byteReg (s.charge k) m = s.byteReg m := by
  simp only [State.byteReg, State.byteRegAt, State.charge_reg, State.charge_cfg]
@[simp] theorem State.charge_longReg (k : Nat) (m : Reg) : State.longReg (s.charge k) m = s.longReg m := by
  simp only [State.longReg, State.charge_reg]
@[simp] theorem State.charge_quadReg (k : Nat) (m : Reg) : State.quadReg (s.charge k) m = s.quadReg m := by
  simp only [State.quadReg, State.charge_longReg]
@[simp] theorem State.charge_segmented (k : Nat) : State.segmented (s.charge k) = s.segmented := by
  simp only [State.segmented, State.charge_cfg, State.charge_fcw]
@[simp] theorem State.charge_system (k : Nat) : State.system (s.charge k) = s.system := by
  simp only [State.system, State.charge_fcw]
@[simp] theorem State.charge_offsetReg (k : Nat) (m : Reg) : State.offsetReg (s.charge k) m = s.offsetReg m := by
  simp only [State.offsetReg, State.charge_segmented]
@[simp] theorem State.charge_spReg (k : Nat) : State.spReg (s.charge k) = s.spReg := by
  simp only [State.spReg, State.charge_segmented]
@[simp] theorem State.charge_physical (k : Nat) (b : Addr) : State.physical (s.charge k) b = s.physical b := by
  simp only [State.physical, State.charge_cfg]
@[simp] theorem State.charge_addrAdd (k : Nat) (b : Addr) (d : Word) :
    State.addrAdd (s.charge k) b d = s.addrAdd b d := by
  simp only [State.addrAdd, State.charge_cfg]
@[simp] theorem State.charge_nonsegAddr (k : Nat) (w : Word) : State.nonsegAddr (s.charge k) w = s.nonsegAddr w := by
  simp only [State.nonsegAddr, State.charge_cfg, State.charge_pc]
@[simp] theorem State.charge_pointer (k : Nat) (m : Reg) : State.pointer (s.charge k) m = s.pointer m := by
  simp only [State.pointer, State.charge_segmented, State.charge_reg, State.charge_nonsegAddr]
@[simp] theorem State.charge_guardOf (k : Nat) (g : Access) (j : Nat) :
    State.guardOf (s.charge k) g j = s.guardOf g j := by
  simp only [State.guardOf, State.charge_guards]
@[simp] theorem State.charge_guarded (k : Nat) (g : Access) (j : Nat) :
    State.guarded (s.charge k) g j = s.guarded g j := by
  simp only [State.guarded, State.charge_guardOf]
@[simp] theorem State.charge_byteCells (k : Nat) (b : Addr) : State.byteCells (s.charge k) b = s.byteCells b := by
  simp only [State.byteCells, State.charge_physical]
@[simp] theorem State.charge_wordCells (k : Nat) (b : Addr) : State.wordCells (s.charge k) b = s.wordCells b := by
  simp only [State.wordCells, State.charge_physical]
@[simp] theorem State.charge_longCells (k : Nat) (b : Addr) : State.longCells (s.charge k) b = s.longCells b := by
  simp only [State.longCells, State.charge_wordCells, State.charge_addrAdd]
@[simp] theorem State.charge_readByte (k : Nat) (q : Role) (b : Addr) :
    (s.charge k).readByte q b = s.readByte q b := by
  simp only [State.readByte, State.charge_physical, State.charge_guardOf, State.charge_mem]
@[simp] theorem State.charge_readWord (k : Nat) (q : Role) (b : Addr) :
    (s.charge k).readWord q b = s.readWord q b := by
  simp only [State.readWord, State.charge_readByte]
@[simp] theorem State.charge_readLong (k : Nat) (q : Role) (b : Addr) :
    (s.charge k).readLong q b = s.readLong q b := by
  simp only [State.readLong, State.charge_readWord, State.charge_addrAdd]

/-! ### `endInstruction` -/

@[simp] theorem State.endInstruction_reg (m : Reg) : State.reg (s.endInstruction) m = s.reg m := by
  simp only [State.reg, State.endInstruction_regs]
@[simp] theorem State.endInstruction_byteReg (m : Reg) : State.byteReg (s.endInstruction) m = s.byteReg m := by
  simp only [State.byteReg, State.byteRegAt, State.endInstruction_reg, State.endInstruction_cfg]
@[simp] theorem State.endInstruction_longReg (m : Reg) : State.longReg (s.endInstruction) m = s.longReg m := by
  simp only [State.longReg, State.endInstruction_reg]
@[simp] theorem State.endInstruction_quadReg (m : Reg) : State.quadReg (s.endInstruction) m = s.quadReg m := by
  simp only [State.quadReg, State.endInstruction_longReg]
@[simp] theorem State.endInstruction_segmented : State.segmented (s.endInstruction) = s.segmented := by
  simp only [State.segmented, State.endInstruction_cfg, State.endInstruction_fcw]
@[simp] theorem State.endInstruction_system : State.system (s.endInstruction) = s.system := by
  simp only [State.system, State.endInstruction_fcw]
@[simp] theorem State.endInstruction_offsetReg (m : Reg) : State.offsetReg (s.endInstruction) m = s.offsetReg m := by
  simp only [State.offsetReg, State.endInstruction_segmented]
@[simp] theorem State.endInstruction_spReg : State.spReg (s.endInstruction) = s.spReg := by
  simp only [State.spReg, State.endInstruction_segmented]
@[simp] theorem State.endInstruction_physical (b : Addr) : State.physical (s.endInstruction) b = s.physical b := by
  simp only [State.physical, State.endInstruction_cfg]
@[simp] theorem State.endInstruction_addrAdd (b : Addr) (d : Word) :
    State.addrAdd (s.endInstruction) b d = s.addrAdd b d := by
  simp only [State.addrAdd, State.endInstruction_cfg]
@[simp] theorem State.endInstruction_nonsegAddr (w : Word) :
    State.nonsegAddr (s.endInstruction) w = s.nonsegAddr w := by
  simp only [State.nonsegAddr, State.endInstruction_cfg, State.endInstruction_pc]
@[simp] theorem State.endInstruction_pointer (m : Reg) : State.pointer (s.endInstruction) m = s.pointer m := by
  simp only [State.pointer, State.endInstruction_segmented, State.endInstruction_reg, State.endInstruction_nonsegAddr]
@[simp] theorem State.endInstruction_guardOf (g : Access) (j : Nat) :
    State.guardOf (s.endInstruction) g j = s.guardOf g j := by
  simp only [State.guardOf, State.endInstruction_guards]
@[simp] theorem State.endInstruction_guarded (g : Access) (j : Nat) :
    State.guarded (s.endInstruction) g j = s.guarded g j := by
  simp only [State.guarded, State.endInstruction_guardOf]
@[simp] theorem State.endInstruction_byteCells (b : Addr) : State.byteCells (s.endInstruction) b = s.byteCells b := by
  simp only [State.byteCells, State.endInstruction_physical]
@[simp] theorem State.endInstruction_wordCells (b : Addr) : State.wordCells (s.endInstruction) b = s.wordCells b := by
  simp only [State.wordCells, State.endInstruction_physical]
@[simp] theorem State.endInstruction_longCells (b : Addr) : State.longCells (s.endInstruction) b = s.longCells b := by
  simp only [State.longCells, State.endInstruction_wordCells, State.endInstruction_addrAdd]
@[simp] theorem State.endInstruction_readByte (q : Role) (b : Addr) :
    (s.endInstruction).readByte q b = s.readByte q b := by
  simp only [State.readByte, State.endInstruction_physical, State.endInstruction_guardOf, State.endInstruction_mem]
@[simp] theorem State.endInstruction_readWord (q : Role) (b : Addr) :
    (s.endInstruction).readWord q b = s.readWord q b := by
  simp only [State.readWord, State.endInstruction_readByte]
@[simp] theorem State.endInstruction_readLong (q : Role) (b : Addr) :
    (s.endInstruction).readLong q b = s.readLong q b := by
  simp only [State.readLong, State.endInstruction_readWord, State.endInstruction_addrAdd]

/-! ### `swapStacks` -/

@[simp] theorem State.swapStacks_segmented : State.segmented (s.swapStacks) = s.segmented := by
  simp only [State.segmented, State.swapStacks_cfg, State.swapStacks_fcw]
@[simp] theorem State.swapStacks_system : State.system (s.swapStacks) = s.system := by
  simp only [State.system, State.swapStacks_fcw]
@[simp] theorem State.swapStacks_offsetReg (m : Reg) : State.offsetReg (s.swapStacks) m = s.offsetReg m := by
  simp only [State.offsetReg, State.swapStacks_segmented]
@[simp] theorem State.swapStacks_spReg : State.spReg (s.swapStacks) = s.spReg := by
  simp only [State.spReg, State.swapStacks_segmented]
@[simp] theorem State.swapStacks_physical (b : Addr) : State.physical (s.swapStacks) b = s.physical b := by
  simp only [State.physical, State.swapStacks_cfg]
@[simp] theorem State.swapStacks_addrAdd (b : Addr) (d : Word) :
    State.addrAdd (s.swapStacks) b d = s.addrAdd b d := by
  simp only [State.addrAdd, State.swapStacks_cfg]
@[simp] theorem State.swapStacks_nonsegAddr (w : Word) : State.nonsegAddr (s.swapStacks) w = s.nonsegAddr w := by
  simp only [State.nonsegAddr, State.swapStacks_cfg, State.swapStacks_pc]
@[simp] theorem State.swapStacks_guardOf (g : Access) (j : Nat) :
    State.guardOf (s.swapStacks) g j = s.guardOf g j := by
  simp only [State.guardOf, State.swapStacks_guards]
@[simp] theorem State.swapStacks_guarded (g : Access) (j : Nat) :
    State.guarded (s.swapStacks) g j = s.guarded g j := by
  simp only [State.guarded, State.swapStacks_guardOf]
@[simp] theorem State.swapStacks_byteCells (b : Addr) : State.byteCells (s.swapStacks) b = s.byteCells b := by
  simp only [State.byteCells, State.swapStacks_physical]
@[simp] theorem State.swapStacks_wordCells (b : Addr) : State.wordCells (s.swapStacks) b = s.wordCells b := by
  simp only [State.wordCells, State.swapStacks_physical]
@[simp] theorem State.swapStacks_longCells (b : Addr) : State.longCells (s.swapStacks) b = s.longCells b := by
  simp only [State.longCells, State.swapStacks_wordCells, State.swapStacks_addrAdd]
@[simp] theorem State.swapStacks_readByte (q : Role) (b : Addr) : (s.swapStacks).readByte q b = s.readByte q b := by
  simp only [State.readByte, State.swapStacks_physical, State.swapStacks_guardOf, State.swapStacks_mem]
@[simp] theorem State.swapStacks_readWord (q : Role) (b : Addr) : (s.swapStacks).readWord q b = s.readWord q b := by
  simp only [State.readWord, State.swapStacks_readByte]
@[simp] theorem State.swapStacks_readLong (q : Role) (b : Addr) : (s.swapStacks).readLong q b = s.readLong q b := by
  simp only [State.readLong, State.swapStacks_readWord, State.swapStacks_addrAdd]

/-! ### `changeFcw` -/

@[simp] theorem State.changeFcw_physical (x : Word) (b : Addr) : State.physical (s.changeFcw x) b = s.physical b := by
  simp only [State.physical, State.changeFcw_cfg]
@[simp] theorem State.changeFcw_addrAdd (x : Word) (b : Addr) (d : Word) :
    State.addrAdd (s.changeFcw x) b d = s.addrAdd b d := by
  simp only [State.addrAdd, State.changeFcw_cfg]
@[simp] theorem State.changeFcw_nonsegAddr (x : Word) (w : Word) :
    State.nonsegAddr (s.changeFcw x) w = s.nonsegAddr w := by
  simp only [State.nonsegAddr, State.changeFcw_cfg, State.changeFcw_pc]
@[simp] theorem State.changeFcw_guardOf (x : Word) (g : Access) (j : Nat) :
    State.guardOf (s.changeFcw x) g j = s.guardOf g j := by
  simp only [State.guardOf, State.changeFcw_guards]
@[simp] theorem State.changeFcw_guarded (x : Word) (g : Access) (j : Nat) :
    State.guarded (s.changeFcw x) g j = s.guarded g j := by
  simp only [State.guarded, State.changeFcw_guardOf]
@[simp] theorem State.changeFcw_byteCells (x : Word) (b : Addr) :
    State.byteCells (s.changeFcw x) b = s.byteCells b := by
  simp only [State.byteCells, State.changeFcw_physical]
@[simp] theorem State.changeFcw_wordCells (x : Word) (b : Addr) :
    State.wordCells (s.changeFcw x) b = s.wordCells b := by
  simp only [State.wordCells, State.changeFcw_physical]
@[simp] theorem State.changeFcw_longCells (x : Word) (b : Addr) :
    State.longCells (s.changeFcw x) b = s.longCells b := by
  simp only [State.longCells, State.changeFcw_wordCells, State.changeFcw_addrAdd]
@[simp] theorem State.changeFcw_readByte (x : Word) (q : Role) (b : Addr) :
    (s.changeFcw x).readByte q b = s.readByte q b := by
  simp only [State.readByte, State.changeFcw_physical, State.changeFcw_guardOf, State.changeFcw_mem]
@[simp] theorem State.changeFcw_readWord (x : Word) (q : Role) (b : Addr) :
    (s.changeFcw x).readWord q b = s.readWord q b := by
  simp only [State.readWord, State.changeFcw_readByte]
@[simp] theorem State.changeFcw_readLong (x : Word) (q : Role) (b : Addr) :
    (s.changeFcw x).readLong q b = s.readLong q b := by
  simp only [State.readLong, State.changeFcw_readWord, State.changeFcw_addrAdd]

/-! ### `pushWord` -/

@[simp] theorem State.pushWord_segmented (p : Reg) (v : Word) : State.segmented (s.pushWord p v) = s.segmented := by
  simp only [State.segmented, State.pushWord_cfg, State.pushWord_fcw]
@[simp] theorem State.pushWord_system (p : Reg) (v : Word) : State.system (s.pushWord p v) = s.system := by
  simp only [State.system, State.pushWord_fcw]
@[simp] theorem State.pushWord_offsetReg (p : Reg) (v : Word) (m : Reg) :
    State.offsetReg (s.pushWord p v) m = s.offsetReg m := by
  simp only [State.offsetReg, State.pushWord_segmented]
@[simp] theorem State.pushWord_spReg (p : Reg) (v : Word) : State.spReg (s.pushWord p v) = s.spReg := by
  simp only [State.spReg, State.pushWord_segmented]
@[simp] theorem State.pushWord_physical (p : Reg) (v : Word) (b : Addr) :
    State.physical (s.pushWord p v) b = s.physical b := by
  simp only [State.physical, State.pushWord_cfg]
@[simp] theorem State.pushWord_addrAdd (p : Reg) (v : Word) (b : Addr) (d : Word) :
    State.addrAdd (s.pushWord p v) b d = s.addrAdd b d := by
  simp only [State.addrAdd, State.pushWord_cfg]
@[simp] theorem State.pushWord_nonsegAddr (p : Reg) (v : Word) (w : Word) :
    State.nonsegAddr (s.pushWord p v) w = s.nonsegAddr w := by
  simp only [State.nonsegAddr, State.pushWord_cfg, State.pushWord_pc]
@[simp] theorem State.pushWord_guardOf (p : Reg) (v : Word) (g : Access) (j : Nat) :
    State.guardOf (s.pushWord p v) g j = s.guardOf g j := by
  simp only [State.guardOf, State.pushWord_guards]
@[simp] theorem State.pushWord_guarded (p : Reg) (v : Word) (g : Access) (j : Nat) :
    State.guarded (s.pushWord p v) g j = s.guarded g j := by
  simp only [State.guarded, State.pushWord_guardOf]
@[simp] theorem State.pushWord_byteCells (p : Reg) (v : Word) (b : Addr) :
    State.byteCells (s.pushWord p v) b = s.byteCells b := by
  simp only [State.byteCells, State.pushWord_physical]
@[simp] theorem State.pushWord_wordCells (p : Reg) (v : Word) (b : Addr) :
    State.wordCells (s.pushWord p v) b = s.wordCells b := by
  simp only [State.wordCells, State.pushWord_physical]
@[simp] theorem State.pushWord_longCells (p : Reg) (v : Word) (b : Addr) :
    State.longCells (s.pushWord p v) b = s.longCells b := by
  simp only [State.longCells, State.pushWord_wordCells, State.pushWord_addrAdd]

/-! ### `pushLong` -/

@[simp] theorem State.pushLong_segmented (p : Reg) (v : Long) : State.segmented (s.pushLong p v) = s.segmented := by
  simp only [State.segmented, State.pushLong_cfg, State.pushLong_fcw]
@[simp] theorem State.pushLong_system (p : Reg) (v : Long) : State.system (s.pushLong p v) = s.system := by
  simp only [State.system, State.pushLong_fcw]
@[simp] theorem State.pushLong_offsetReg (p : Reg) (v : Long) (m : Reg) :
    State.offsetReg (s.pushLong p v) m = s.offsetReg m := by
  simp only [State.offsetReg, State.pushLong_segmented]
@[simp] theorem State.pushLong_spReg (p : Reg) (v : Long) : State.spReg (s.pushLong p v) = s.spReg := by
  simp only [State.spReg, State.pushLong_segmented]
@[simp] theorem State.pushLong_physical (p : Reg) (v : Long) (b : Addr) :
    State.physical (s.pushLong p v) b = s.physical b := by
  simp only [State.physical, State.pushLong_cfg]
@[simp] theorem State.pushLong_addrAdd (p : Reg) (v : Long) (b : Addr) (d : Word) :
    State.addrAdd (s.pushLong p v) b d = s.addrAdd b d := by
  simp only [State.addrAdd, State.pushLong_cfg]
@[simp] theorem State.pushLong_nonsegAddr (p : Reg) (v : Long) (w : Word) :
    State.nonsegAddr (s.pushLong p v) w = s.nonsegAddr w := by
  simp only [State.nonsegAddr, State.pushLong_cfg, State.pushLong_pc]
@[simp] theorem State.pushLong_guardOf (p : Reg) (v : Long) (g : Access) (j : Nat) :
    State.guardOf (s.pushLong p v) g j = s.guardOf g j := by
  simp only [State.guardOf, State.pushLong_guards]
@[simp] theorem State.pushLong_guarded (p : Reg) (v : Long) (g : Access) (j : Nat) :
    State.guarded (s.pushLong p v) g j = s.guarded g j := by
  simp only [State.guarded, State.pushLong_guardOf]
@[simp] theorem State.pushLong_byteCells (p : Reg) (v : Long) (b : Addr) :
    State.byteCells (s.pushLong p v) b = s.byteCells b := by
  simp only [State.byteCells, State.pushLong_physical]
@[simp] theorem State.pushLong_wordCells (p : Reg) (v : Long) (b : Addr) :
    State.wordCells (s.pushLong p v) b = s.wordCells b := by
  simp only [State.wordCells, State.pushLong_physical]
@[simp] theorem State.pushLong_longCells (p : Reg) (v : Long) (b : Addr) :
    State.longCells (s.pushLong p v) b = s.longCells b := by
  simp only [State.longCells, State.pushLong_wordCells, State.pushLong_addrAdd]

end Sys2Proof.Machine
end

