-- ==== Sys2Proof/Laws/Registers.lean ====
section
/-!
SUPPORT. The register views (10_state.md rules R30 to R36): what each view reads after a write through it, and which
registers the write leaves alone; and the flags after an update of FCW.
-/

namespace Sys2Proof.Machine

open Sys2Proof

variable (s : State)

/-! ### Words -/

theorem State.reg_setReg (n m : Reg) (v : Word) : (s.setReg n v).reg m = if m = n then v else s.reg m := by
  unfold State.reg State.setReg
  simp only [Vector.getElem_set]
  by_cases h : m = n
  · simp [h]
  · have : ¬ n.toNat = m.toNat := fun h' => h (BitVec.eq_of_toNat_eq h'.symm)
    simp [h, this]

@[simp] theorem State.reg_setReg_same (n : Reg) (v : Word) : (s.setReg n v).reg n = v := by simp [State.reg_setReg]

theorem State.reg_setReg_other {n m : Reg} (h : m ≠ n) (v : Word) : (s.setReg n v).reg m = s.reg m := by
  simp [State.reg_setReg, h]

/-! ### Longs and quads -/

theorem reg_ne_succ (n : Reg) : n ≠ n + 1 := by revert n; decide

theorem reg_quad_ne (n : Reg) : n ∉ [n + 2, n + 2 + 1] ∧ n + 1 ∉ [n + 2, n + 2 + 1] := by
  revert n; decide

theorem State.reg_setLongReg (n m : Reg) (v : Long) :
    (s.setLongReg n v).reg m =
      if m = n + 1 then v.extractLsb' 0 16 else if m = n then v.extractLsb' 16 16 else s.reg m := by
  simp [State.setLongReg, State.reg_setReg]

theorem State.reg_setLongReg_other {n m : Reg} (h : m ∉ [n, n + 1]) (v : Long) :
    (s.setLongReg n v).reg m = s.reg m := by
  simp at h
  simp [State.reg_setLongReg, h]

@[simp] theorem State.longReg_setLongReg (n : Reg) (v : Long) : (s.setLongReg n v).longReg n = v := by
  simp [State.longReg, State.setLongReg, State.reg_setReg]

@[simp] theorem State.quadReg_setQuadReg (n : Reg) (v : Quad) : (s.setQuadReg n v).quadReg n = v := by
  have h5 : ∀ t : State, ∀ u : Long, (t.setLongReg (n + 2) u).longReg n = t.longReg n := by
    intro t u
    rw [State.longReg, State.reg_setLongReg_other _ (reg_quad_ne n).1, State.reg_setLongReg_other _ (reg_quad_ne n).2]
    rfl
  rw [State.quadReg, State.setQuadReg, h5, State.longReg_setLongReg, State.longReg_setLongReg]
  exact halves_32 v

theorem State.reg_setQuadReg_other {n m : Reg} (h : m ∉ [n, n + 1, n + 2, n + 2 + 1]) (v : Quad) :
    (s.setQuadReg n v).reg m = s.reg m := by
  simp at h
  simp [State.setQuadReg, State.reg_setLongReg, h]

/-! ### Bytes -/

@[simp] theorem half_putHalf (w : Word) (high : Bool) (v : Byte) : half (putHalf w high v) high = v := by
  cases high <;> simp [half, putHalf]

theorem half_putHalf_other (w : Word) (high high' : Bool) (v : Byte) (h : high' ≠ high) :
    half (putHalf w high v) high' = half w high' := by
  cases high <;> cases high' <;> simp_all [half, putHalf]

theorem byteLoc_injective (p : ByteRegMap) (j k : Reg) (h : byteLoc p j = byteLoc p k) : j = k := by
  revert h; revert j k; cases p <;> decide

@[simp] theorem State.byteReg_setByteReg (k : Reg) (v : Byte) : (s.setByteReg k v).byteReg k = v := by
  simp [State.byteReg, State.byteRegAt, State.setByteReg, State.setByteRegAt]

theorem State.byteReg_setByteReg_other {j k : Reg} (h : j ≠ k) (v : Byte) :
    (s.setByteReg k v).byteReg j = s.byteReg j := by
  simp only [State.byteReg, State.byteRegAt, State.setByteReg, State.setByteRegAt, State.setReg_cfg, State.reg_setReg]
  split
  · rename_i hw
    rw [half_putHalf_other, hw]
    intro hh
    exact h (byteLoc_injective _ j k (Prod.ext hw hh))
  · rfl

theorem State.reg_setByteReg_other {k m : Reg} (h : m ≠ s.byteHome k) (v : Byte) :
    (s.setByteReg k v).reg m = s.reg m := by
  simp only [State.setByteReg, State.setByteRegAt]
  exact State.reg_setReg_other _ h _

/-! ### FCW -/

theorem putBit_getLsbD {n : Nat} (w : BitVec n) (i j : Nat) (b : Bool) (hi : i < n) :
    (putBit w i b).getLsbD j = if j = i then b else w.getLsbD j := by
  unfold putBit
  cases b <;> by_cases hj : j = i <;> by_cases hn : j < n <;>
    simp_all <;> omega

theorem putFlag_getLsbD (o : Option Bool) (i j : Nat) (w : Word) (hi : i < 16) :
    (putFlag o i w).getLsbD j = if j = i then o.getD (w.getLsbD i) else w.getLsbD j := by
  cases o with
  | none => by_cases h : j = i <;> simp [putFlag, h]
  | some b => simp [putFlag, putBit_getLsbD _ _ _ _ hi]

theorem FlagUpdate.apply_getLsbD (u : FlagUpdate) (f : Word) (j : Nat) :
    (u.apply f).getLsbD j =
      if j = 7 then u.c.getD (f.getLsbD 7) else if j = 6 then u.z.getD (f.getLsbD 6)
      else if j = 5 then u.s.getD (f.getLsbD 5) else if j = 4 then u.pv.getD (f.getLsbD 4)
      else if j = 3 then u.da.getD (f.getLsbD 3) else if j = 2 then u.h.getD (f.getLsbD 2)
      else f.getLsbD j := by
  unfold FlagUpdate.apply
  simp only [putFlag_getLsbD _ _ _ _ (by decide : 7 < 16), putFlag_getLsbD _ _ _ _ (by decide : 6 < 16),
    putFlag_getLsbD _ _ _ _ (by decide : 5 < 16), putFlag_getLsbD _ _ _ _ (by decide : 4 < 16),
    putFlag_getLsbD _ _ _ _ (by decide : 3 < 16), putFlag_getLsbD _ _ _ _ (by decide : 2 < 16)]
  simp

@[simp] theorem flagC_apply (u : FlagUpdate) (f : Word) : flagC (u.apply f) = u.c.getD (flagC f) := by
  unfold flagC; rw [FlagUpdate.apply_getLsbD]; rfl

@[simp] theorem flagZ_apply (u : FlagUpdate) (f : Word) : flagZ (u.apply f) = u.z.getD (flagZ f) := by
  unfold flagZ; rw [FlagUpdate.apply_getLsbD]; rfl

@[simp] theorem flagS_apply (u : FlagUpdate) (f : Word) : flagS (u.apply f) = u.s.getD (flagS f) := by
  unfold flagS; rw [FlagUpdate.apply_getLsbD]; rfl

@[simp] theorem flagPV_apply (u : FlagUpdate) (f : Word) : flagPV (u.apply f) = u.pv.getD (flagPV f) := by
  unfold flagPV; rw [FlagUpdate.apply_getLsbD]; rfl

@[simp] theorem flagDA_apply (u : FlagUpdate) (f : Word) : flagDA (u.apply f) = u.da.getD (flagDA f) := by
  unfold flagDA; rw [FlagUpdate.apply_getLsbD]; rfl

@[simp] theorem flagH_apply (u : FlagUpdate) (f : Word) : flagH (u.apply f) = u.h.getD (flagH f) := by
  unfold flagH; rw [FlagUpdate.apply_getLsbD]; rfl

@[simp] theorem fcwSystem_apply (u : FlagUpdate) (f : Word) : fcwSystem (u.apply f) = fcwSystem f := by
  unfold fcwSystem; rw [FlagUpdate.apply_getLsbD]; rfl

@[simp] theorem fcwSeg_apply (u : FlagUpdate) (f : Word) : fcwSeg (u.apply f) = fcwSeg f := by
  unfold fcwSeg; rw [FlagUpdate.apply_getLsbD]; rfl

@[simp] theorem State.setFlags_segmented (u : FlagUpdate) : (s.setFlags u).segmented = s.segmented := by
  simp [State.segmented]

@[simp] theorem State.setFlags_system (u : FlagUpdate) : (s.setFlags u).system = s.system := by
  simp [State.system]

@[simp] theorem State.setFlags_offsetReg (u : FlagUpdate) (n : Reg) : (s.setFlags u).offsetReg n = s.offsetReg n := by
  simp [State.offsetReg]

@[simp] theorem State.setFlags_pointer (u : FlagUpdate) (n : Reg) : (s.setFlags u).pointer n = s.pointer n := by
  simp [State.pointer]

/-- An update changes no bit of FCW outside the flags it names. -/
theorem FlagUpdate.apply_and (u : FlagUpdate) (f m : Word)
    (h : ∀ j, m.getLsbD j = true →
      (j = 7 → u.c = none) ∧ (j = 6 → u.z = none) ∧ (j = 5 → u.s = none) ∧ (j = 4 → u.pv = none) ∧
        (j = 3 → u.da = none) ∧ (j = 2 → u.h = none)) :
    u.apply f &&& m = f &&& m := by
  apply BitVec.eq_of_getLsbD_eq
  intro j hj
  rw [BitVec.getLsbD_and, BitVec.getLsbD_and, FlagUpdate.apply_getLsbD]
  cases hm : m.getLsbD j
  · simp
  · obtain ⟨h7, h6, h5, h4, h3, h2⟩ := h j hm
    split
    · simp [*]
    split
    · simp [*]
    split
    · simp [*]
    split
    · simp [*]
    split
    · simp [*]
    split
    · simp [*]
    · rfl

end Sys2Proof.Machine
end

