-- ==== Sys2Proof/Laws/Fetch.lean ====
section
/-!
SUPPORT. The operand fetch (30_encoding.md R131) and what an instruction reads after it: the fetch of an instruction's
words changes `pc` and the operand slots only, and SEGTRAP where the bus adaptor requests it (R608), so that operands
and effective addresses are those of the state before it. Last, what `need`, `priv` and `finish` can answer.
-/

namespace Sys2Proof.Machine

open Sys2Proof

variable (s : State)

/-! ### `fetchExt` -/

@[simp] theorem State.fetchExt_cfg (k : Nat) : (s.fetchExt k).cfg = s.cfg := by
  induction k generalizing s with
  | zero => rfl
  | succ k ih => rw [State.fetchExt, ih, State.fetch_cfg]

@[simp] theorem State.fetchExt_regs (k : Nat) : (s.fetchExt k).regs = s.regs := by
  induction k generalizing s with
  | zero => rfl
  | succ k ih => rw [State.fetchExt, ih, State.fetch_regs]

@[simp] theorem State.fetchExt_ppc (k : Nat) : (s.fetchExt k).ppc = s.ppc := by
  induction k generalizing s with
  | zero => rfl
  | succ k ih => rw [State.fetchExt, ih, State.fetch_ppc]

@[simp] theorem State.fetchExt_fcw (k : Nat) : (s.fetchExt k).fcw = s.fcw := by
  induction k generalizing s with
  | zero => rfl
  | succ k ih => rw [State.fetchExt, ih, State.fetch_fcw]

@[simp] theorem State.fetchExt_psapSeg (k : Nat) : (s.fetchExt k).psapSeg = s.psapSeg := by
  induction k generalizing s with
  | zero => rfl
  | succ k ih => rw [State.fetchExt, ih, State.fetch_psapSeg]

@[simp] theorem State.fetchExt_psapOff (k : Nat) : (s.fetchExt k).psapOff = s.psapOff := by
  induction k generalizing s with
  | zero => rfl
  | succ k ih => rw [State.fetchExt, ih, State.fetch_psapOff]

@[simp] theorem State.fetchExt_nspSeg (k : Nat) : (s.fetchExt k).nspSeg = s.nspSeg := by
  induction k generalizing s with
  | zero => rfl
  | succ k ih => rw [State.fetchExt, ih, State.fetch_nspSeg]

@[simp] theorem State.fetchExt_nspOff (k : Nat) : (s.fetchExt k).nspOff = s.nspOff := by
  induction k generalizing s with
  | zero => rfl
  | succ k ih => rw [State.fetchExt, ih, State.fetch_nspOff]

@[simp] theorem State.fetchExt_refresh (k : Nat) : (s.fetchExt k).refresh = s.refresh := by
  induction k generalizing s with
  | zero => rfl
  | succ k ih => rw [State.fetchExt, ih, State.fetch_refresh]

@[simp] theorem State.fetchExt_nmiState (k : Nat) : (s.fetchExt k).nmiState = s.nmiState := by
  induction k generalizing s with
  | zero => rfl
  | succ k ih => rw [State.fetchExt, ih, State.fetch_nmiState]

@[simp] theorem State.fetchExt_nmiPrev (k : Nat) : (s.fetchExt k).nmiPrev = s.nmiPrev := by
  induction k generalizing s with
  | zero => rfl
  | succ k ih => rw [State.fetchExt, ih, State.fetch_nmiPrev]

@[simp] theorem State.fetchExt_nviLine (k : Nat) : (s.fetchExt k).nviLine = s.nviLine := by
  induction k generalizing s with
  | zero => rfl
  | succ k ih => rw [State.fetchExt, ih, State.fetch_nviLine]

@[simp] theorem State.fetchExt_viLine (k : Nat) : (s.fetchExt k).viLine = s.viLine := by
  induction k generalizing s with
  | zero => rfl
  | succ k ih => rw [State.fetchExt, ih, State.fetch_viLine]

@[simp] theorem State.fetchExt_irqVec (k : Nat) : (s.fetchExt k).irqVec = s.irqVec := by
  induction k generalizing s with
  | zero => rfl
  | succ k ih => rw [State.fetchExt, ih, State.fetch_irqVec]

@[simp] theorem State.fetchExt_mi (k : Nat) : (s.fetchExt k).mi = s.mi := by
  induction k generalizing s with
  | zero => rfl
  | succ k ih => rw [State.fetchExt, ih, State.fetch_mi]

@[simp] theorem State.fetchExt_halt (k : Nat) : (s.fetchExt k).halt = s.halt := by
  induction k generalizing s with
  | zero => rfl
  | succ k ih => rw [State.fetchExt, ih, State.fetch_halt]

@[simp] theorem State.fetchExt_totalCycles (k : Nat) : (s.fetchExt k).totalCycles = s.totalCycles := by
  induction k generalizing s with
  | zero => rfl
  | succ k ih => rw [State.fetchExt, ih, State.fetch_totalCycles]

@[simp] theorem State.fetchExt_icount (k : Nat) : (s.fetchExt k).icount = s.icount := by
  induction k generalizing s with
  | zero => rfl
  | succ k ih => rw [State.fetchExt, ih, State.fetch_icount]

@[simp] theorem State.fetchExt_mem (k : Nat) : (s.fetchExt k).mem = s.mem := by
  induction k generalizing s with
  | zero => rfl
  | succ k ih => rw [State.fetchExt, ih, State.fetch_mem]

@[simp] theorem State.fetchExt_ioLog (k : Nat) : (s.fetchExt k).ioLog = s.ioLog := by
  induction k generalizing s with
  | zero => rfl
  | succ k ih => rw [State.fetchExt, ih, State.fetch_ioLog]

@[simp] theorem State.fetchExt_draws (k : Nat) : (s.fetchExt k).draws = s.draws := by
  induction k generalizing s with
  | zero => rfl
  | succ k ih => rw [State.fetchExt, ih, State.fetch_draws]

@[simp] theorem State.fetchExt_guards (k : Nat) : (s.fetchExt k).guards = s.guards := by
  induction k generalizing s with
  | zero => rfl
  | succ k ih => rw [State.fetchExt, ih, State.fetch_guards]

/-- A fetch may request SEGTRAP (R608) and changes no other request. -/
theorem State.fetchExt_irqReq (k : Nat) :
    (s.fetchExt k).irqReq = { s.irqReq with segtrap := (s.fetchExt k).irqReq.segtrap } := by
  induction k generalizing s with
  | zero => rfl
  | succ k ih => rw [State.fetchExt, ih]; rfl

/-- Without a bus adaptor a fetch requests nothing. -/
theorem State.fetchExt_irqReq_bare (k : Nat) {s : State} (h : s.guards = []) : (s.fetchExt k).irqReq = s.irqReq := by
  induction k generalizing s with
  | zero => rfl
  | succ k ih =>
    rw [State.fetchExt, ih (by simpa using h), State.fetch, State.touchWord, State.access_bare h]

/-- The other fields after a fetch: those before it, with the SEGTRAP it may have requested. -/
theorem State.fetchExt_rest (k : Nat) :
    (s.fetchExt k).rest = { s.rest with irqReq := { s.irqReq with segtrap := (s.fetchExt k).irqReq.segtrap } } := by
  rw [← State.fetchExt_irqReq]
  simp [State.rest]

@[simp] theorem State.fetchExt_opValid (k : Nat) : (s.fetchExt k).opValid = s.opValid + k := by
  induction k generalizing s with
  | zero => rfl
  | succ k ih => rw [State.fetchExt, ih, State.fetch_opValid]; omega

/-- Slot 0, once valid, keeps the opcode word (R63). -/
theorem State.fetchExt_op_zero (k : Nat) (h : 0 < s.opValid) : (s.fetchExt k).op[0] = s.op[0] := by
  induction k generalizing s with
  | zero => rfl
  | succ k ih =>
    rw [State.fetchExt, ih _ (by simp)]
    simp [State.fetch, Nat.ne_of_gt h]

theorem State.fetchExt_slots (k : Nat) : SlotsFilled s (s.fetchExt k) k :=
  ⟨by simp, fun h => s.fetchExt_op_zero k h⟩

/-! ### Addresses after a fetch -/

theorem State.addrAdd_addrAdd (a : Addr) (j k : Word) : s.addrAdd (s.addrAdd a j) k = s.addrAdd a (j + k) := by
  unfold State.addrAdd
  cases s.cfg.variant <;> simp [BitVec.add_assoc]

theorem State.fetchExt_pc (k : Nat) : (s.fetchExt k).pc = s.pcAfter k := by
  induction k generalizing s with
  | zero => rfl
  | succ k ih =>
    rw [State.fetchExt, ih]
    unfold State.pcAfter
    cases k with
    | zero => simp
    | succ k =>
      simp only [Nat.add_one_ne_zero, if_false, State.fetch_pc, State.fetch_addrAdd, State.addrAdd_addrAdd]
      congr 1
      apply BitVec.eq_of_toNat_eq
      simp [BitVec.toNat_add, BitVec.toNat_ofNat]
      omega

@[simp] theorem State.fetchExt_addrAdd (k : Nat) (b : Addr) (d : Word) : (s.fetchExt k).addrAdd b d = s.addrAdd b d :=
  State.addrAdd_congr (s.fetchExt_cfg k) b d

@[simp] theorem State.fetchExt_physical (k : Nat) (b : Addr) : (s.fetchExt k).physical b = s.physical b :=
  State.physical_congr (s.fetchExt_cfg k) b

@[simp] theorem State.fetch_nonsegAddr (w : Word) : s.fetch.nonsegAddr w = s.nonsegAddr w := by
  simp only [State.nonsegAddr, State.fetch_cfg, State.fetch_pc, State.addrAdd]
  cases s.cfg.variant <;> simp

@[simp] theorem State.fetchExt_nonsegAddr (k : Nat) (w : Word) : (s.fetchExt k).nonsegAddr w = s.nonsegAddr w := by
  induction k generalizing s with
  | zero => rfl
  | succ k ih => rw [State.fetchExt, ih, State.fetch_nonsegAddr]

@[simp] theorem State.fetchExt_reg (k : Nat) (m : Reg) : (s.fetchExt k).reg m = s.reg m := by simp [State.reg]

@[simp] theorem State.fetchExt_byteReg (k : Nat) (m : Reg) : (s.fetchExt k).byteReg m = s.byteReg m := by
  simp [State.byteReg, State.byteRegAt]

@[simp] theorem State.fetchExt_longReg (k : Nat) (m : Reg) : (s.fetchExt k).longReg m = s.longReg m := by
  simp [State.longReg]

@[simp] theorem State.fetchExt_quadReg (k : Nat) (m : Reg) : (s.fetchExt k).quadReg m = s.quadReg m := by
  simp [State.quadReg]

@[simp] theorem State.fetchExt_segmented (k : Nat) : (s.fetchExt k).segmented = s.segmented := by
  simp [State.segmented]

@[simp] theorem State.fetchExt_system (k : Nat) : (s.fetchExt k).system = s.system := by simp [State.system]

@[simp] theorem State.fetchExt_offsetReg (k : Nat) (m : Reg) : (s.fetchExt k).offsetReg m = s.offsetReg m := by
  simp [State.offsetReg]

@[simp] theorem State.fetchExt_spReg (k : Nat) : (s.fetchExt k).spReg = s.spReg := by simp [State.spReg]

@[simp] theorem State.fetchExt_pointer (k : Nat) (m : Reg) : (s.fetchExt k).pointer m = s.pointer m := by
  simp [State.pointer]

@[simp] theorem State.fetchExt_readByte (k : Nat) (q : Role) (b : Addr) :
    (s.fetchExt k).readByte q b = s.readByte q b :=
  State.readByte_congr (s.fetchExt_cfg k) (s.fetchExt_mem k) (s.fetchExt_guards k) q b

@[simp] theorem State.fetchExt_readWord (k : Nat) (q : Role) (b : Addr) :
    (s.fetchExt k).readWord q b = s.readWord q b :=
  State.readWord_congr (s.fetchExt_cfg k) (s.fetchExt_mem k) (s.fetchExt_guards k) q b

@[simp] theorem State.fetchExt_readLong (k : Nat) (q : Role) (b : Addr) :
    (s.fetchExt k).readLong q b = s.readLong q b :=
  State.readLong_congr (s.fetchExt_cfg k) (s.fetchExt_mem k) (s.fetchExt_guards k) q b

@[simp] theorem State.fetchExt_draw (k : Nat) : (s.fetchExt k).draw = s.draw := by simp [State.draw]

/-- A displacement is relative to the address after the instruction's words (R148). -/
theorem State.fetchExt_relative (disp : Word) : (s.fetchExt 1).relative disp = s.addrAdd s.pc (2 + disp) := by
  simp [State.relative, State.fetchExt_pc, State.pcAfter, State.addrAdd_addrAdd]

/-! ### Operands after a fetch -/

@[simp] theorem AddrOp.ea_fetchExt (k : Nat) (ad : AddrOp) : ad.ea (s.fetchExt k) = ad.ea s := by
  cases ad <;> simp [AddrOp.ea]

@[simp] theorem MemOp.ea_fetchExt (k : Nat) (m : MemOp) : m.ea (s.fetchExt k) = m.ea s := by
  cases m <;> simp [MemOp.ea]

@[simp] theorem LdMem.ea_fetchExt (k : Nat) (m : LdMem) : m.ea (s.fetchExt k) = m.ea s := by
  cases m <;> simp [LdMem.ea]

@[simp] theorem RegMem.place_fetchExt (k : Nat) (p : RegMem) : p.place (s.fetchExt k) = p.place s := by
  cases p <;> simp [RegMem.place]

@[simp] theorem PortOp.port_fetchExt (k : Nat) (p : PortOp) : p.port (s.fetchExt k) = p.port s := by
  cases p <;> simp [PortOp.port]

/-- A width whose reads a fetch does not disturb. -/
structure Width.Steady {n : Nat} (w : Width n) : Prop where
  getReg : ∀ (s : State) (k : Nat) (r : Reg), w.getReg (s.fetchExt k) r = w.getReg s r
  load   : ∀ (s : State) (k : Nat) (a : Addr), w.load (s.fetchExt k) a = w.load s a

@[simp] theorem State.fetchExt_guarded (k : Nat) (g : Access) (n : Nat) :
    (s.fetchExt k).guarded g n = s.guarded g n := State.guarded_congr (s.fetchExt_guards k) g n

@[simp] theorem State.fetchExt_byteCells (k : Nat) (b : Addr) : (s.fetchExt k).byteCells b = s.byteCells b := by
  simp [State.byteCells]

@[simp] theorem State.fetchExt_wordCells (k : Nat) (b : Addr) : (s.fetchExt k).wordCells b = s.wordCells b := by
  simp [State.wordCells]

@[simp] theorem State.fetchExt_longCells (k : Nat) (b : Addr) : (s.fetchExt k).longCells b = s.longCells b := by
  simp [State.longCells]

/-- `addr_add(a, 0)` is the same place in memory. -/
theorem State.wordCells_addrAdd_zero (a : Addr) : s.wordCells (s.addrAdd a 0) = s.wordCells a := by
  have h : (s.addrAdd a 0).toNat % memorySize s.cfg.variant = a.toNat % memorySize s.cfg.variant := by
    unfold State.addrAdd
    cases s.cfg.variant with
    | z8001 => rw [append_7_16_toNat]; simp [memorySize, BitVec.extractLsb'_toNat]; omega
    | z8002 => rw [append_7_16_toNat]; simp [memorySize, BitVec.extractLsb'_toNat]
  have h2 : ∀ v : Variant, memorySize v % 2 = 0 := by intro v; cases v <;> rfl
  have hm : (s.addrAdd a 0).toNat % 2 = a.toNat % 2 := by
    have := congrArg (· % 2) h
    rwa [Nat.mod_mod_of_dvd _ (Nat.dvd_of_mod_eq_zero (h2 _)), Nat.mod_mod_of_dvd _ (Nat.dvd_of_mod_eq_zero (h2 _))]
      at this
  simp only [State.wordCells, State.physical, wordAlign_or_one_toNat, wordAlign_toNat]
  have e : ∀ (v : Variant) (x y : Nat), x % memorySize v = y % memorySize v → x % 2 = y % 2 →
      (x - x % 2) % memorySize v = (y - y % 2) % memorySize v ∧
      (x - x % 2 + 1) % memorySize v = (y - y % 2 + 1) % memorySize v := by
    intro v x y hxy h2
    cases v <;> simp only [memorySize] at hxy ⊢ <;> omega
  obtain ⟨e1, e2⟩ := e s.cfg.variant (s.addrAdd a 0).toNat a.toNat h hm
  simp only [e1, e2]

/-- The accesses of `k + 1` fetches are that of one, then those of the rest. -/
theorem State.fetches_succ (k : Nat) :
    s.fetches (k + 1) = accesses (.read .program) (s.wordCells s.pc) ++ s.fetch.fetches k := by
  have step : ∀ j : Nat, s.addrAdd s.pc (BitVec.ofNat 16 (2 * (j + 1))) =
      s.fetch.addrAdd s.fetch.pc (BitVec.ofNat 16 (2 * j)) := by
    intro j
    rw [State.fetch_addrAdd, State.fetch_pc, State.addrAdd_addrAdd]
    congr 1
    apply BitVec.eq_of_toNat_eq
    simp [BitVec.toNat_add, BitVec.toNat_ofNat]
    omega
  have first : s.wordCells (s.addrAdd s.pc (BitVec.ofNat 16 (2 * 0))) = s.wordCells s.pc := by
    rw [Nat.mul_zero]
    exact s.wordCells_addrAdd_zero s.pc
  unfold State.fetches accesses
  rw [List.range_succ_eq_map, List.flatMap_cons, List.flatMap_map, List.map_append, first]
  simp only [Nat.succ_eq_add_one, step, State.fetch_wordCells]

/-- The accesses of a fetch request SEGTRAP exactly where the bus adaptor does (R608). -/
theorem State.fetchExt_segtrap (k : Nat) : SegtrapIs s (s.fetchExt k) (s.fetches k) := by
  unfold SegtrapIs
  induction k generalizing s with
  | zero => simp [State.fetchExt, State.fetches, accesses]
  | succ k ih =>
    have hg : ∀ c : Access × Nat, s.fetch.guarded c.1 c.2 = s.guarded c.1 c.2 := fun c => State.fetch_guarded s c.1 c.2
    rw [State.fetchExt, ih, State.fetches_succ, List.any_append]
    simp only [hg]
    rw [← Bool.or_assoc]
    congr 1

theorem byteW_steady : byteW.Steady := ⟨fun s k r => s.fetchExt_byteReg k r, fun s k a => s.fetchExt_readByte k .data a⟩
theorem wordW_steady : wordW.Steady := ⟨fun s k r => s.fetchExt_reg k r, fun s k a => s.fetchExt_readWord k .data a⟩
theorem longW_steady : longW.Steady := ⟨fun s k r => s.fetchExt_longReg k r, fun s k a => s.fetchExt_readLong k .data a⟩

theorem Source.value_fetchExt {n : Nat} {w : Width n} (h : w.Steady) (k : Nat) (src : Source (BitVec n)) :
    src.value w (s.fetchExt k) = src.value w s := by
  cases src <;> simp [Source.value, h.getReg, h.load]

theorem Place.get_fetchExt {n : Nat} {w : Width n} (h : w.Steady) (k : Nat) (p : Place) :
    p.get w (s.fetchExt k) = p.get w s := by
  cases p <;> simp [Place.get, h.getReg, h.load]

/-! ### `need`, `priv`, `finish` -/

theorem need_of (f : Fault) (o : Out) {b : Bool} (h : b = true) : need b f o = o := by simp [need, h]

theorem need_not (f : Fault) (o : Out) {b : Bool} (h : b = false) : need b f o = .fault f := by simp [need, h]

/-- A meaning under `need` answers a next state only when the registers are legal. -/
theorem need_next {b : Bool} {f : Fault} {o : Out} {t : State} : need b f o = .next t ↔ b = true ∧ o = .next t := by
  cases b <;> simp [need]

theorem priv_of (o : Out) (h : s.system = true) : priv s o = o := by simp [priv, h]

/-- A privileged instruction in normal mode raises TRAP and does nothing else (R530). -/
theorem priv_not (o : Out) (h : s.system = false) : priv s o = .next (s.raise .trap) := by simp [priv, h]

theorem priv_next {o : Out} {t : State} :
    priv s o = .next t ↔ (s.system = true ∧ o = .next t) ∨ (s.system = false ∧ t = s.raise .trap) := by
  cases h : s.system <;> simp [priv, h, eq_comm]

theorem finish_next {k : Nat} {f : State → State} {t : State} :
    finish s k f = .next t ↔ t = f (s.fetchExt k) := by simp [finish, eq_comm]

end Sys2Proof.Machine
end

