-- ==== Sys2Proof/Laws/Frames.lean ====
section
/-!
SUPPORT. How frames are built: the fetch of an instruction's words changes nothing a frame speaks of, and each named
update keeps a frame that allows for what it writes. `FlagUpdate.mask` is the mask of the flags an update writes.
-/

namespace Sys2Proof.Machine

open Sys2Proof

/-! ### Which flags an update writes -/

/-- The bits of FCW that an update writes. -/
def FlagUpdate.mask (u : FlagUpdate) : Word :=
  (if u.c.isSome then 0x80 else 0) ||| (if u.z.isSome then 0x40 else 0) ||| (if u.s.isSome then 0x20 else 0) |||
    (if u.pv.isSome then 0x10 else 0) ||| (if u.da.isSome then 0x08 else 0) ||| (if u.h.isSome then 0x04 else 0)

theorem FlagUpdate.apply_keeps (u : FlagUpdate) (f : Word) {flags : Word} (h : u.mask &&& ~~~flags = 0) :
    u.apply f &&& ~~~flags = f &&& ~~~flags := by
  have key : ∀ j, j < 16 → (~~~flags).getLsbD j = true → u.mask.getLsbD j = false := by
    intro j _ hj
    have := congrArg (fun w : Word => w.getLsbD j) h
    simpa [hj] using this
  refine FlagUpdate.apply_and u f _ fun j hj => ?_
  have hlt : j < 16 := by
    by_contra hge
    simp [BitVec.getLsbD_of_ge _ _ (Nat.le_of_not_lt hge)] at hj
  have hm := key j hlt hj
  refine ⟨?_, ?_, ?_, ?_, ?_, ?_⟩ <;> (rintro rfl; revert hm; unfold FlagUpdate.mask)
  · cases u.c <;> cases u.z <;> cases u.s <;> cases u.pv <;> cases u.da <;> cases u.h <;> simp
  · cases u.c <;> cases u.z <;> cases u.s <;> cases u.pv <;> cases u.da <;> cases u.h <;> simp
  · cases u.c <;> cases u.z <;> cases u.s <;> cases u.pv <;> cases u.da <;> cases u.h <;> simp
  · cases u.c <;> cases u.z <;> cases u.s <;> cases u.pv <;> cases u.da <;> cases u.h <;> simp
  · cases u.c <;> cases u.z <;> cases u.s <;> cases u.pv <;> cases u.da <;> cases u.h <;> simp
  · cases u.c <;> cases u.z <;> cases u.s <;> cases u.pv <;> cases u.da <;> cases u.h <;> simp

/-! ### Frames -/

variable {s t : State} {regs : List Reg} {stored : List Nat} {flags : Word} {r : Rest}

/-! #### The other fields -/

theorem RestIs.guards (h : RestIs s t r) : t.guards = r.guards := congrArg Rest.guards h.1

/-- An update that leaves the other fields alone keeps them. -/
theorem RestIs.keep (h : RestIs s t r) {u : State} (e : u.rest = t.rest) : RestIs s u r := by
  have hq : u.irqReq = t.irqReq := congrArg Rest.irqReq e
  exact ⟨by rw [e, hq]; exact h.1, by rw [hq]; exact h.2.1, fun hb => e.trans (h.2.2 hb)⟩

/-- The bus adaptor may request SEGTRAP during an access (R608). -/
theorem RestIs.access (h : RestIs s t r) (hg : r.guards = s.guards) (k : Access) (ns : List Nat) :
    RestIs s (t.access k ns) r := by
  refine ⟨?_, fun hr => ?_, fun hb => ?_⟩
  · have e : (t.access k ns).rest = { t.rest with irqReq := (t.access k ns).irqReq } := rfl
    have hq : t.irqReq = { r.irqReq with segtrap := t.irqReq.segtrap } := congrArg Rest.irqReq h.1
    rw [e, h.1, State.access_irqReq, hq]
  · rw [State.access_segtrap, h.2.1 hr, Bool.true_or]
  · rw [State.access_bare (h.guards.trans (hg.trans hb)), h.2.2 hb]

theorem RestIs.fetchExt (s : State) (k : Nat) : RestIs s (s.fetchExt k) s.rest := by
  refine ⟨s.fetchExt_rest k, fun hr => ?_, fun hb => ?_⟩
  · have hr' : s.irqReq.segtrap = true := hr
    rw [show (s.fetchExt k).irqReq.segtrap = _ from s.fetchExt_segtrap k, hr', Bool.true_or]
  · rw [State.fetchExt_rest, State.fetchExt_irqReq_bare k hb]
    rfl

/-- A field of the others written. -/
theorem RestIs.update (h : RestIs s t r) {u : State} (f : Rest → Rest) (e : u.rest = f t.rest)
    (hf : ∀ (x : Rest) (b : Bool), f { x with irqReq := { x.irqReq with segtrap := b } } =
      { f x with irqReq := { (f x).irqReq with segtrap := b } })
    (hq : ∀ x : Rest, (f x).irqReq.segtrap = x.irqReq.segtrap) : RestIs s u (f r) := by
  have hs : u.irqReq.segtrap = t.irqReq.segtrap := (congrArg (fun x : Rest => x.irqReq.segtrap) e).trans (hq _)
  refine ⟨?_, fun hr => ?_, fun hb => ?_⟩
  · rw [e, h.1, hf, hs]
  · rw [hs]; exact h.2.1 ((hq r).symm.trans hr)
  · rw [e, h.2.2 hb]

/-! #### All of a state -/

theorem Frame.fetchExt (s : State) (k : Nat) (regs : List Reg) (stored : List Nat) (flags : Word) :
    Frame s (s.fetchExt k) regs stored flags s.rest :=
  ⟨fun n _ => s.fetchExt_reg k n, fun a _ => by rw [State.fetchExt_mem], by rw [State.fetchExt_fcw], .fetchExt s k⟩

theorem Frame.access (h : Frame s t regs stored flags r) (k : Access) (ns : List Nat)
    (hg : r.guards = s.guards := by rfl) : Frame s (t.access k ns) regs stored flags r :=
  ⟨h.regs, h.mem, h.fcw, h.rest.access hg k ns⟩

theorem Frame.setReg (h : Frame s t regs stored flags r) (n : Reg) (v : Word) (hn : n ∈ regs) :
    Frame s (t.setReg n v) regs stored flags r :=
  ⟨fun m hm => (State.reg_setReg_other t (ne_of_mem_of_not_mem hn hm).symm v).trans (h.regs m hm), h.mem, h.fcw,
    h.rest.keep rfl⟩

theorem Frame.setByteReg (h : Frame s t regs stored flags r) (k : Reg) (v : Byte) (hk : t.byteHome k ∈ regs) :
    Frame s (t.setByteReg k v) regs stored flags r :=
  ⟨fun m hm => (State.reg_setByteReg_other t (ne_of_mem_of_not_mem hk hm).symm v).trans (h.regs m hm),
    by simpa using h.mem, by simpa using h.fcw, h.rest.keep (by simp)⟩

theorem Frame.setLongReg (h : Frame s t regs stored flags r) (n : Reg) (v : Long) (hn : n ∈ regs)
    (hn' : n + 1 ∈ regs) : Frame s (t.setLongReg n v) regs stored flags r :=
  (h.setReg n _ hn).setReg (n + 1) _ hn'

theorem Frame.setQuadReg (h : Frame s t regs stored flags r) (n : Reg) (v : Quad) (h0 : n ∈ regs) (h1 : n + 1 ∈ regs)
    (h2 : n + 2 ∈ regs) (h3 : n + 2 + 1 ∈ regs) : Frame s (t.setQuadReg n v) regs stored flags r :=
  (h.setLongReg n _ h0 h1).setLongReg (n + 2) _ h2 h3

theorem Frame.stepPointer (h : Frame s t regs stored flags r) (n : Reg) (k : Word) (hn : t.offsetReg n ∈ regs) :
    Frame s (t.stepPointer n k) regs stored flags r :=
  h.setReg _ _ hn

theorem Frame.setFlags (h : Frame s t regs stored flags r) (u : FlagUpdate) (hu : u.mask &&& ~~~flags = 0) :
    Frame s (t.setFlags u) regs stored flags r :=
  ⟨h.regs, h.mem, (FlagUpdate.apply_keeps u t.fcw hu).trans h.fcw, h.rest.keep rfl⟩

theorem Frame.setPc (h : Frame s t regs stored flags r) (a : Addr) : Frame s (t.setPc a) regs stored flags r :=
  ⟨h.regs, h.mem, h.fcw, h.rest.keep rfl⟩

theorem Frame.writeByte (h : Frame s t regs stored flags r) (q : Role) (a : Addr) (v : Byte)
    (ha : ∀ x ∈ t.byteCells a, x ∈ stored) (hg : r.guards = s.guards := by rfl) :
    Frame s (t.writeByte q a v) regs stored flags r :=
  ⟨h.regs, fun b hb => by rw [State.writeByte_read _ _ _ _ (fun e => hb (ha b e)), h.mem b hb], h.fcw,
    (h.rest.access hg _ _).keep rfl⟩

theorem Frame.writeWord (h : Frame s t regs stored flags r) (q : Role) (a : Addr) (v : Word)
    (ha : ∀ x ∈ t.wordCells a, x ∈ stored) (hg : r.guards = s.guards := by rfl) :
    Frame s (t.writeWord q a v) regs stored flags r :=
  (h.writeByte q _ _ (fun x hx => ha x (List.mem_cons.2 (.inl (by simpa [State.byteCells] using hx)))) hg).writeByte
    q _ _ (fun x hx => ha x (List.mem_cons.2 (.inr (by simpa [State.byteCells] using hx)))) hg

theorem Frame.writeLong (h : Frame s t regs stored flags r) (q : Role) (a : Addr) (v : Long)
    (ha : ∀ x ∈ t.longCells a, x ∈ stored) (hg : r.guards = s.guards := by rfl) :
    Frame s (t.writeLong q a v) regs stored flags r :=
  (h.writeWord q _ _ (fun x hx => ha x (List.mem_append.2 (.inl hx))) hg).writeWord q _ _
    (fun x hx => ha x (List.mem_append.2 (.inr (by simpa using hx)))) hg

theorem Frame.drawn (h : Frame s t regs stored flags r) :
    Frame s t.drawn regs stored flags { r with draws := r.draws + 1 } :=
  ⟨h.regs, h.mem, h.fcw, h.rest.update (fun x => { x with draws := x.draws + 1 }) rfl (fun _ _ => rfl) fun _ => rfl⟩

theorem Frame.ioEvent (h : Frame s t regs stored flags r) (e : IoEvent) (hg : r.guards = s.guards := by rfl) :
    Frame s (t.ioEvent e) regs stored flags { r with ioLog := e :: r.ioLog } :=
  ⟨h.regs, h.mem, h.fcw, (h.rest.access hg _ _).update (fun x => { x with ioLog := e :: x.ioLog }) rfl (fun _ _ => rfl)
    fun _ => rfl⟩

theorem Frame.raise (h : Frame s t regs stored flags r) (c : Cause) (hc : c ≠ .segtrap) :
    Frame s (t.raise c) regs stored flags { r with irqReq := r.irqReq.raise c } :=
  ⟨h.regs, h.mem, h.fcw, h.rest.update (fun x => { x with irqReq := x.irqReq.raise c }) rfl
    (fun _ _ => by cases c <;> first | rfl | exact absurd rfl hc)
    fun _ => by cases c <;> first | rfl | exact absurd rfl hc⟩

/-! ### Which accesses request SEGTRAP (R608) -/

/-- After the accesses `l` and then those of `k` at `ns`. -/
theorem SegtrapIs.access {l : List (Access × Nat)} (h : SegtrapIs s t l) (hg : t.guards = s.guards) (k : Access)
    (ns : List Nat) : SegtrapIs s (t.access k ns) (l ++ accesses k ns) := by
  unfold SegtrapIs at h ⊢
  rw [State.access_segtrap, h, List.any_append, Bool.or_assoc]
  rw [accesses, List.any_map]
  congr 3
  funext n
  exact State.guarded_congr hg k n

/-- An update that leaves the requests alone. -/
theorem SegtrapIs.keep {l : List (Access × Nat)} (h : SegtrapIs s t l) {u : State}
    (e : u.irqReq.segtrap = t.irqReq.segtrap) : SegtrapIs s u l := e.trans h

theorem SegtrapIs.writeByte {l : List (Access × Nat)} (h : SegtrapIs s t l) (hg : t.guards = s.guards) (q : Role)
    (a : Addr) (v : Byte) : SegtrapIs s (t.writeByte q a v) (l ++ accesses (.write q) (t.byteCells a)) :=
  (h.access hg _ _).keep rfl

theorem SegtrapIs.writeWord {l : List (Access × Nat)} (h : SegtrapIs s t l) (hg : t.guards = s.guards) (q : Role)
    (a : Addr) (v : Word) : SegtrapIs s (t.writeWord q a v) (l ++ accesses (.write q) (t.wordCells a)) := by
  have := (h.writeByte hg q (wordAlign a) (v.extractLsb' 8 8)).writeByte (by simpa using hg) q (wordAlign a ||| 1#23)
    (v.extractLsb' 0 8)
  simpa [State.writeWord, State.wordCells, State.byteCells, accesses] using this

theorem SegtrapIs.writeLong {l : List (Access × Nat)} (h : SegtrapIs s t l) (hg : t.guards = s.guards) (q : Role)
    (a : Addr) (v : Long) : SegtrapIs s (t.writeLong q a v) (l ++ accesses (.write q) (t.longCells a)) := by
  have := (h.writeWord hg q (wordAlign a) (v.extractLsb' 16 16)).writeWord (by simpa using hg) q
    (t.addrAdd (wordAlign a) 2) (v.extractLsb' 0 16)
  simpa [State.writeLong, State.longCells, accesses] using this

end Sys2Proof.Machine
end

