-- ==== Sys2Proof/Laws/Exceptions.lean ====
section
/-!
SUPPORT. What a write of the whole FCW does (R56, R57), which accesses a push and the read of an entry make (R228,
R613), and what service can do (R620): said once, to be cited instead of unfolding `swapStacks`, `changeFcw`,
`pushWord`, `touchPsa` and `service`.
-/

namespace Sys2Proof.Machine

open Sys2Proof

variable (s : State)

/-! ### `swapStacks` -/

theorem State.swapStacks_reg_other {n : Reg} (h14 : n ≠ 14) (h15 : n ≠ 15) : s.swapStacks.reg n = s.reg n := by
  have one : (s.setReg 15 s.nspOff).reg n = s.reg n := s.reg_setReg_other h15 _
  have two : (({ s.setReg 15 s.nspOff with nspOff := s.reg 15 } : State).setReg 14 s.nspSeg).reg n = s.reg n :=
    (State.reg_setReg_other _ h14 _).trans one
  unfold State.swapStacks
  cases s.cfg.variant with
  | z8001 => exact two
  | z8002 => cases s.cfg.z8002SwapR14 with
    | false => exact one
    | true => exact two

theorem State.swapStacks_reg_15 : s.swapStacks.reg 15 = s.nspOff := by
  unfold State.swapStacks
  cases s.cfg.variant <;> cases s.cfg.z8002SwapR14 <;> simp [State.reg, State.setReg]

theorem State.swapStacks_nspOff : s.swapStacks.nspOff = s.reg 15 := by
  unfold State.swapStacks
  cases s.cfg.variant <;> cases s.cfg.z8002SwapR14 <;> rfl

/-- Where the pair is exchanged, R14 and NSPSEG change places; elsewhere both keep their values. -/
theorem State.swapStacks_segment :
    if s.cfg.variant = .z8001 ∨ s.cfg.z8002SwapR14 = true then
      s.swapStacks.reg 14 = s.nspSeg ∧ s.swapStacks.nspSeg = s.reg 14
    else s.swapStacks.reg 14 = s.reg 14 ∧ s.swapStacks.nspSeg = s.nspSeg := by
  unfold State.swapStacks
  cases s.cfg.variant <;> cases s.cfg.z8002SwapR14 <;> simp [State.reg, State.setReg]

/-! ### `changeFcw` -/

/-- Masking an FCW value (R46) keeps its S_N bit. -/
theorem fcwSystem_mask (p : Variant) (v : Word) : fcwSystem (v &&& fcwMask p) = fcwSystem v := by
  cases p <;> simp [fcwSystem, fcwMask]

/-- A whole-FCW write is `swapStacks` or nothing, and the masked value. -/
theorem State.changeFcw_eq (v : Word) :
    s.changeFcw v = { (if fcwSystem v = s.system then s else s.swapStacks) with
      fcw := v &&& fcwMask s.cfg.variant } := by
  simp only [State.changeFcw, fcwSystem_mask]

/-- A whole-FCW write does what `Switched` says. -/
theorem State.changeFcw_switched (v : Word) : Switched s (s.changeFcw v) v := by
  refine ⟨rfl, fun h => ?_, fun h => ?_⟩
  · rw [State.changeFcw_eq, if_pos h]
    exact ⟨fun _ => rfl, rfl, rfl⟩
  · rw [State.changeFcw_eq, if_neg h]
    exact ⟨s.swapStacks_reg_15, s.swapStacks_nspOff, fun _ h14 h15 => s.swapStacks_reg_other h14 h15,
      s.swapStacks_segment⟩

/-- Apart from registers and FCW it changes the NSP shadow only. -/
theorem State.changeFcw_rest (v : Word) : (s.changeFcw v).rest = s.restSwitched (s.changeFcw v) := by
  rw [State.changeFcw_eq]
  split <;> simp [State.rest, State.restSwitched]

/-! ### Pushes and the reads of an entry (R228, R613): which accesses they make -/

/-- Two moves of one pointer are one. -/
theorem State.stepPointer_stepPointer (p : Reg) (j k : Word) :
    (s.stepPointer p j).stepPointer p k = s.stepPointer p (j + k) := by
  simp only [State.stepPointer, State.offsetReg, State.setReg_segmented, State.reg_setReg_same, BitVec.add_assoc]
  simp [State.setReg]

section

variable {s} {t : State} {l : List (Access × Nat)}

theorem SegtrapIs.start : SegtrapIs s s [] := by simp [SegtrapIs]

theorem SegtrapIs.pushWord (h : SegtrapIs s t l) (hg : t.guards = s.guards) (p : Reg) (v : Word) :
    SegtrapIs s (t.pushWord p v) (l ++ accesses (.write .stack) (t.wordCells ((t.stepPointer p (-2)).pointer p))) := by
  simpa [State.pushWord] using (h.keep (u := t.stepPointer p (-2)) (by simp)).writeWord (by simpa using hg) .stack
    ((t.stepPointer p (-2)).pointer p) v

theorem SegtrapIs.pushLong (h : SegtrapIs s t l) (hg : t.guards = s.guards) (p : Reg) (v : Long) :
    SegtrapIs s (t.pushLong p v) (l ++ accesses (.write .stack) (t.longCells ((t.stepPointer p (-4)).pointer p))) := by
  simpa [State.pushLong] using (h.keep (u := t.stepPointer p (-4)) (by simp)).writeLong (by simpa using hg) .stack
    ((t.stepPointer p (-4)).pointer p) v

theorem SegtrapIs.touchPsa (h : SegtrapIs s t l) (hg : t.guards = s.guards) (o : Word) :
    SegtrapIs s (t.touchPsa o) (l ++ accesses (.read .program) (t.wordCells (t.addrAdd t.psapBase o))) :=
  h.access hg _ _

end

/-! ### Service -/

/-- Service does nothing when nothing is pending; otherwise it serves RESET, or enters one pending cause. -/
theorem State.service_cases :
    (s.topCause = none ∧ s.service = s) ∨
    (s.topCause = some .reset ∧ s.service = s.resetService.charge 0) ∨
    (∃ c, c ≠ .reset ∧ s.topCause = some c ∧ s.service = (s.enter c).charge (serviceCost s.cfg c)) := by
  unfold State.service
  match h : s.topCause with
  | none => exact .inl ⟨rfl, rfl⟩
  | some .reset => exact .inr (.inl ⟨rfl, rfl⟩)
  | some .epu => exact .inr (.inr ⟨.epu, by decide, rfl, rfl⟩)
  | some .trap => exact .inr (.inr ⟨.trap, by decide, rfl, rfl⟩)
  | some .syscall => exact .inr (.inr ⟨.syscall, by decide, rfl, rfl⟩)
  | some .segtrap => exact .inr (.inr ⟨.segtrap, by decide, rfl, rfl⟩)
  | some .nmi => exact .inr (.inr ⟨.nmi, by decide, rfl, rfl⟩)
  | some .nvi => exact .inr (.inr ⟨.nvi, by decide, rfl, rfl⟩)
  | some .vi => exact .inr (.inr ⟨.vi, by decide, rfl, rfl⟩)

end Sys2Proof.Machine
end

