-- ==== Sys2Proof/Laws/PerInstr.lean ====
section
/-!
SUPPORT. Lemmas per instruction (LAWS.json, "per_instruction"). `EncodedLength`: the encoder writes as many words as the
decoder takes, the opcode word and the extension words of R133.
-/

namespace Sys2Proof.Laws

open Sys2Proof

@[simp] theorem addrOp_encode_length (a : AddrOp) : a.encode.length = a.words := by cases a <;> rfl

@[simp] theorem memOp_ext_length (m : MemOp) : m.ext.length = m.extWords := by
  cases m <;> simp [MemOp.ext, MemOp.extWords]

@[simp] theorem regMem_ext_length (o : RegMem) : o.ext.length = o.extWords := by
  cases o <;> simp [RegMem.ext, RegMem.extWords]

@[simp] theorem source_extByte_length (o : Source Byte) : o.extByte.length = o.extWords 1 := by
  cases o <;> simp [Source.extByte, Source.extWords]

@[simp] theorem source_extWord_length (o : Source Word) : o.extWord.length = o.extWords 1 := by
  cases o <;> simp [Source.extWord, Source.extWords]

@[simp] theorem source_extLong_length (o : Source Long) : o.extLong.length = o.extWords 2 := by
  cases o <;> simp [Source.extLong, Source.extWords]

/-- An opcode word before `n` words. -/
theorem cons_length {w : Word} {l : List Word} {n : Nat} (h : l.length = n) : (w :: l).length = 1 + n := by
  rw [List.length_cons, h, Nat.add_comm]

/-- An opcode word before `n` words and an immediate. -/
theorem cons_snoc_length {w v : Word} {l : List Word} {n : Nat} (h : l.length = n) :
    (w :: l ++ [v]).length = 1 + (n + 1) := by
  rw [List.length_append, cons_length h, Nat.add_assoc]
  rfl

/-- An opcode word and a second word before `n` words. -/
theorem cons_cons_length {w v : Word} {l : List Word} {n : Nat} (h : l.length = n) :
    (w :: v :: l).length = 1 + (n + 1) := by
  rw [List.length_cons, List.length_cons, h, Nat.add_comm]

end Sys2Proof.Laws

namespace Sys2Proof.Laws.EncodedLength

open Sys2Proof

/-- The encoding of `i` has one opcode word and `i.extWords` extension words. -/
def Statement (i : Instr) : Prop := (encode i).length = 1 + i.extWords

theorem addb (d : Reg) (src : Source Byte) : Statement (.addb d src) :=
  cons_length (source_extByte_length src)

theorem add (d : Reg) (src : Source Word) : Statement (.add d src) :=
  cons_length (source_extWord_length src)

theorem subb (d : Reg) (src : Source Byte) : Statement (.subb d src) :=
  cons_length (source_extByte_length src)

theorem sub (d : Reg) (src : Source Word) : Statement (.sub d src) :=
  cons_length (source_extWord_length src)

theorem orb (d : Reg) (src : Source Byte) : Statement (.orb d src) :=
  cons_length (source_extByte_length src)

theorem or (d : Reg) (src : Source Word) : Statement (.or d src) :=
  cons_length (source_extWord_length src)

theorem andb (d : Reg) (src : Source Byte) : Statement (.andb d src) :=
  cons_length (source_extByte_length src)

theorem and (d : Reg) (src : Source Word) : Statement (.and d src) :=
  cons_length (source_extWord_length src)

theorem xorb (d : Reg) (src : Source Byte) : Statement (.xorb d src) :=
  cons_length (source_extByte_length src)

theorem xor (d : Reg) (src : Source Word) : Statement (.xor d src) :=
  cons_length (source_extWord_length src)

theorem cpb (d : Reg) (src : Source Byte) : Statement (.cpb d src) :=
  cons_length (source_extByte_length src)

theorem cp (d : Reg) (src : Source Word) : Statement (.cp d src) :=
  cons_length (source_extWord_length src)

theorem cpl (d : Reg) (src : Source Long) : Statement (.cpl d src) :=
  cons_length (source_extLong_length src)

theorem subl (d : Reg) (src : Source Long) : Statement (.subl d src) :=
  cons_length (source_extLong_length src)

theorem ldlIM (d : Reg) (imm : Long) : Statement (.ldlIM d imm) := rfl

theorem ldlMem (d : Reg) (src : LdMem) : Statement (.ldlMem d src) :=
  match src with
  | .mem m => cons_length (memOp_ext_length m)
  | .ba _ _ => rfl
  | .bx _ _ => rfl

theorem ldlR (d : Reg) (s : Reg) : Statement (.ldlR d s) := rfl

theorem addl (d : Reg) (src : Source Long) : Statement (.addl d src) :=
  cons_length (source_extLong_length src)

theorem multl (d : Reg) (src : Source Long) : Statement (.multl d src) :=
  cons_length (source_extLong_length src)

theorem mult (d : Reg) (src : Source Word) : Statement (.mult d src) :=
  cons_length (source_extWord_length src)

theorem divl (d : Reg) (src : Source Long) : Statement (.divl d src) :=
  cons_length (source_extLong_length src)

theorem div (d : Reg) (src : Source Word) : Statement (.div d src) :=
  cons_length (source_extWord_length src)

theorem ldbIM (d : Reg) (imm : Byte) : Statement (.ldbIM d imm) := rfl

theorem ldbMem (d : Reg) (src : LdMem) : Statement (.ldbMem d src) :=
  match src with
  | .mem m => cons_length (memOp_ext_length m)
  | .ba _ _ => rfl
  | .bx _ _ => rfl

theorem ldbR (d : Reg) (s : Reg) : Statement (.ldbR d s) := rfl

theorem ldIM (d : Reg) (imm : Word) : Statement (.ldIM d imm) := rfl

theorem ldMem (d : Reg) (src : LdMem) : Statement (.ldMem d src) :=
  match src with
  | .mem m => cons_length (memOp_ext_length m)
  | .ba _ _ => rfl
  | .bx _ _ => rfl

theorem ldR (d : Reg) (s : Reg) : Statement (.ldR d s) := rfl

theorem adcb (d : Reg) (s : Reg) : Statement (.adcb d s) := rfl

theorem adc (d : Reg) (s : Reg) : Statement (.adc d s) := rfl

theorem sbcb (d : Reg) (s : Reg) : Statement (.sbcb d s) := rfl

theorem sbc (d : Reg) (s : Reg) : Statement (.sbc d s) := rfl

theorem comb (dst : RegMem) : Statement (.comb dst) :=
  cons_length (regMem_ext_length dst)

theorem com (dst : RegMem) : Statement (.com dst) :=
  cons_length (regMem_ext_length dst)

theorem cpbImm (dst : MemOp) (imm : Byte) : Statement (.cpbImm dst imm) :=
  cons_snoc_length (memOp_ext_length dst)

theorem cpImm (dst : MemOp) (imm : Word) : Statement (.cpImm dst imm) :=
  cons_snoc_length (memOp_ext_length dst)

theorem negb (dst : RegMem) : Statement (.negb dst) :=
  cons_length (regMem_ext_length dst)

theorem neg (dst : RegMem) : Statement (.neg dst) :=
  cons_length (regMem_ext_length dst)

theorem testb (dst : RegMem) : Statement (.testb dst) :=
  cons_length (regMem_ext_length dst)

theorem test (dst : RegMem) : Statement (.test dst) :=
  cons_length (regMem_ext_length dst)

theorem ldbImm (dst : MemOp) (imm : Byte) : Statement (.ldbImm dst imm) :=
  cons_snoc_length (memOp_ext_length dst)

theorem ldImm (dst : MemOp) (imm : Word) : Statement (.ldImm dst imm) :=
  cons_snoc_length (memOp_ext_length dst)

theorem tsetb (dst : RegMem) : Statement (.tsetb dst) :=
  cons_length (regMem_ext_length dst)

theorem tset (dst : RegMem) : Statement (.tset dst) :=
  cons_length (regMem_ext_length dst)

theorem clrb (dst : RegMem) : Statement (.clrb dst) :=
  cons_length (regMem_ext_length dst)

theorem clr (dst : RegMem) : Statement (.clr dst) :=
  cons_length (regMem_ext_length dst)

theorem push (d : Reg) (src : Source Word) : Statement (.push d src) :=
  match src with
  | .imm _ => rfl
  | .reg _ => rfl
  | .mem (.ir _) => rfl
  | .mem (.da ad) => cons_length (addrOp_encode_length ad)
  | .mem (.x _ ad) => cons_length (addrOp_encode_length ad)

theorem ldctlbRead (d : Reg) : Statement (.ldctlbRead d) := rfl

theorem ldctlbWrite (s : Reg) : Statement (.ldctlbWrite s) := rfl

theorem setflg (mask : BitVec 4) : Statement (.setflg mask) := rfl

theorem resflg (mask : BitVec 4) : Statement (.resflg mask) := rfl

theorem comflg (mask : BitVec 4) : Statement (.comflg mask) := rfl

theorem nop : Statement (.nop) := rfl

theorem testl (dst : RegMem) : Statement (.testl dst) :=
  cons_length (regMem_ext_length dst)

theorem ldm (d : Reg) (src : MemOp) (n : BitVec 4) : Statement (.ldm d src n) :=
  cons_cons_length (memOp_ext_length src)

theorem ldmTo (dst : MemOp) (s : Reg) (n : BitVec 4) : Statement (.ldmTo dst s n) :=
  cons_cons_length (memOp_ext_length dst)

theorem ldlTo (dst : LdMem) (s : Reg) : Statement (.ldlTo dst s) :=
  match dst with
  | .mem m => cons_length (memOp_ext_length m)
  | .ba _ _ => rfl
  | .bx _ _ => rfl

theorem jp (c : CondCode) (dst : MemOp) : Statement (.jp c dst) :=
  cons_length (memOp_ext_length dst)

theorem ret (c : CondCode) : Statement (.ret c) := rfl

theorem call (dst : MemOp) : Statement (.call dst) :=
  cons_length (memOp_ext_length dst)

theorem pushl (d : Reg) (src : RegMem) : Statement (.pushl d src) :=
  cons_length (regMem_ext_length src)

theorem popl (dst : RegMem) (s : Reg) : Statement (.popl dst s) :=
  cons_length (regMem_ext_length dst)

theorem pop (dst : RegMem) (s : Reg) : Statement (.pop dst s) :=
  cons_length (regMem_ext_length dst)

theorem resb (dst : RegMem) (b : BitVec 4) : Statement (.resb dst b) :=
  cons_length (regMem_ext_length dst)

theorem resbDyn (d : Reg) (s : Reg) : Statement (.resbDyn d s) := rfl

theorem res (dst : RegMem) (b : BitVec 4) : Statement (.res dst b) :=
  cons_length (regMem_ext_length dst)

theorem resDyn (d : Reg) (s : Reg) : Statement (.resDyn d s) := rfl

theorem setb (dst : RegMem) (b : BitVec 4) : Statement (.setb dst b) :=
  cons_length (regMem_ext_length dst)

theorem setbDyn (d : Reg) (s : Reg) : Statement (.setbDyn d s) := rfl

theorem set (dst : RegMem) (b : BitVec 4) : Statement (.set dst b) :=
  cons_length (regMem_ext_length dst)

theorem setDyn (d : Reg) (s : Reg) : Statement (.setDyn d s) := rfl

theorem bitb (dst : RegMem) (b : BitVec 4) : Statement (.bitb dst b) :=
  cons_length (regMem_ext_length dst)

theorem bitbDyn (d : Reg) (s : Reg) : Statement (.bitbDyn d s) := rfl

theorem bit (dst : RegMem) (b : BitVec 4) : Statement (.bit dst b) :=
  cons_length (regMem_ext_length dst)

theorem bitDyn (d : Reg) (s : Reg) : Statement (.bitDyn d s) := rfl

theorem incb (dst : RegMem) (n : BitVec 4) : Statement (.incb dst n) :=
  cons_length (regMem_ext_length dst)

theorem inc (dst : RegMem) (n : BitVec 4) : Statement (.inc dst n) :=
  cons_length (regMem_ext_length dst)

theorem decb (dst : RegMem) (n : BitVec 4) : Statement (.decb dst n) :=
  cons_length (regMem_ext_length dst)

theorem dec (dst : RegMem) (n : BitVec 4) : Statement (.dec dst n) :=
  cons_length (regMem_ext_length dst)

theorem exb (d : Reg) (src : RegMem) : Statement (.exb d src) :=
  cons_length (regMem_ext_length src)

theorem ex (d : Reg) (src : RegMem) : Statement (.ex d src) :=
  cons_length (regMem_ext_length src)

theorem ldbTo (dst : LdMem) (s : Reg) : Statement (.ldbTo dst s) :=
  match dst with
  | .mem m => cons_length (memOp_ext_length m)
  | .ba _ _ => rfl
  | .bx _ _ => rfl

theorem ldTo (dst : LdMem) (s : Reg) : Statement (.ldTo dst s) :=
  match dst with
  | .mem m => cons_length (memOp_ext_length m)
  | .ba _ _ => rfl
  | .bx _ _ => rfl

theorem tccb (c : CondCode) (d : Reg) : Statement (.tccb c d) := rfl

theorem tcc (c : CondCode) (d : Reg) : Statement (.tcc c d) := rfl

theorem ldrbLoad (d : Reg) (disp : Word) : Statement (.ldrbLoad d disp) := rfl

theorem ldrLoad (d : Reg) (disp : Word) : Statement (.ldrLoad d disp) := rfl

theorem ldrbStore (disp : Word) (s : Reg) : Statement (.ldrbStore disp s) := rfl

theorem ldrStore (disp : Word) (s : Reg) : Statement (.ldrStore disp s) := rfl

theorem ldar (d : Reg) (disp : Word) : Statement (.ldar d disp) := rfl

theorem lda (d : Reg) (src : LdMem) : Statement (.lda d src) :=
  match src with
  | .mem m => cons_length (memOp_ext_length m)
  | .ba _ _ => rfl
  | .bx _ _ => rfl

theorem ldrlLoad (d : Reg) (disp : Word) : Statement (.ldrlLoad d disp) := rfl

theorem ldrlStore (disp : Word) (s : Reg) : Statement (.ldrlStore disp s) := rfl

theorem ldps (src : MemOp) : Statement (.ldps src) :=
  cons_length (memOp_ext_length src)

theorem dab (d : Reg) : Statement (.dab d) := rfl

theorem extsb (d : Reg) : Statement (.extsb d) := rfl

theorem extsl (d : Reg) : Statement (.extsl d) := rfl

theorem exts (d : Reg) : Statement (.exts d) := rfl

theorem rlb (d : Reg) (two : Bool) : Statement (.rlb d two) := rfl

theorem rl (d : Reg) (two : Bool) : Statement (.rl d two) := rfl

theorem rrb (d : Reg) (two : Bool) : Statement (.rrb d two) := rfl

theorem rr (d : Reg) (two : Bool) : Statement (.rr d two) := rfl

theorem rlcb (d : Reg) (two : Bool) : Statement (.rlcb d two) := rfl

theorem rlc (d : Reg) (two : Bool) : Statement (.rlc d two) := rfl

theorem rrcb (d : Reg) (two : Bool) : Statement (.rrcb d two) := rfl

theorem rrc (d : Reg) (two : Bool) : Statement (.rrc d two) := rfl

theorem sllb (d : Reg) (count : Word) : Statement (.sllb d count) := rfl

theorem slab (d : Reg) (count : Word) : Statement (.slab d count) := rfl

theorem sdlb (d : Reg) (s : Reg) : Statement (.sdlb d s) := rfl

theorem sdab (d : Reg) (s : Reg) : Statement (.sdab d s) := rfl

theorem sll (d : Reg) (count : Word) : Statement (.sll d count) := rfl

theorem sla (d : Reg) (count : Word) : Statement (.sla d count) := rfl

theorem sdl (d : Reg) (s : Reg) : Statement (.sdl d s) := rfl

theorem sda (d : Reg) (s : Reg) : Statement (.sda d s) := rfl

theorem slll (d : Reg) (count : Word) : Statement (.slll d count) := rfl

theorem slal (d : Reg) (count : Word) : Statement (.slal d count) := rfl

theorem sdll (d : Reg) (s : Reg) : Statement (.sdll d s) := rfl

theorem sdal (d : Reg) (s : Reg) : Statement (.sdal d s) := rfl

theorem trib (d : Reg) (s : Reg) (r : Reg) : Statement (.trib d s r) := rfl

theorem trirb (d : Reg) (s : Reg) (r : Reg) : Statement (.trirb d s r) := rfl

theorem trdb (d : Reg) (s : Reg) (r : Reg) : Statement (.trdb d s r) := rfl

theorem trdrb (d : Reg) (s : Reg) (r : Reg) : Statement (.trdrb d s r) := rfl

theorem trtib (s : Reg) (t : Reg) (r : Reg) : Statement (.trtib s t r) := rfl

theorem trtirb (s : Reg) (t : Reg) (r : Reg) : Statement (.trtirb s t r) := rfl

theorem trtdb (s : Reg) (t : Reg) (r : Reg) : Statement (.trtdb s t r) := rfl

theorem trtdrb (s : Reg) (t : Reg) (r : Reg) : Statement (.trtdrb s t r) := rfl

theorem cpib (d : Reg) (s : Reg) (r : Reg) (c : CondCode) : Statement (.cpib d s r c) := rfl

theorem cpi (d : Reg) (s : Reg) (r : Reg) (c : CondCode) : Statement (.cpi d s r c) := rfl

theorem cpirb (d : Reg) (s : Reg) (r : Reg) (c : CondCode) : Statement (.cpirb d s r c) := rfl

theorem cpir (d : Reg) (s : Reg) (r : Reg) (c : CondCode) : Statement (.cpir d s r c) := rfl

theorem cpdb (d : Reg) (s : Reg) (r : Reg) (c : CondCode) : Statement (.cpdb d s r c) := rfl

theorem cpd (d : Reg) (s : Reg) (r : Reg) (c : CondCode) : Statement (.cpd d s r c) := rfl

theorem cpdrb (d : Reg) (s : Reg) (r : Reg) (c : CondCode) : Statement (.cpdrb d s r c) := rfl

theorem cpdr (d : Reg) (s : Reg) (r : Reg) (c : CondCode) : Statement (.cpdr d s r c) := rfl

theorem cpsib (d : Reg) (s : Reg) (r : Reg) (c : CondCode) : Statement (.cpsib d s r c) := rfl

theorem cpsi (d : Reg) (s : Reg) (r : Reg) (c : CondCode) : Statement (.cpsi d s r c) := rfl

theorem cpsirb (d : Reg) (s : Reg) (r : Reg) (c : CondCode) : Statement (.cpsirb d s r c) := rfl

theorem cpsir (d : Reg) (s : Reg) (r : Reg) (c : CondCode) : Statement (.cpsir d s r c) := rfl

theorem cpsdb (d : Reg) (s : Reg) (r : Reg) (c : CondCode) : Statement (.cpsdb d s r c) := rfl

theorem cpsd (d : Reg) (s : Reg) (r : Reg) (c : CondCode) : Statement (.cpsd d s r c) := rfl

theorem cpsdrb (d : Reg) (s : Reg) (r : Reg) (c : CondCode) : Statement (.cpsdrb d s r c) := rfl

theorem cpsdr (d : Reg) (s : Reg) (r : Reg) (c : CondCode) : Statement (.cpsdr d s r c) := rfl

theorem ldib (d : Reg) (s : Reg) (r : Reg) : Statement (.ldib d s r) := rfl

theorem ldi (d : Reg) (s : Reg) (r : Reg) : Statement (.ldi d s r) := rfl

theorem ldirb (d : Reg) (s : Reg) (r : Reg) : Statement (.ldirb d s r) := rfl

theorem ldir (d : Reg) (s : Reg) (r : Reg) : Statement (.ldir d s r) := rfl

theorem lddb (d : Reg) (s : Reg) (r : Reg) : Statement (.lddb d s r) := rfl

theorem ldd (d : Reg) (s : Reg) (r : Reg) : Statement (.ldd d s r) := rfl

theorem lddrb (d : Reg) (s : Reg) (r : Reg) : Statement (.lddrb d s r) := rfl

theorem lddr (d : Reg) (s : Reg) (r : Reg) : Statement (.lddr d s r) := rfl

theorem rrdb (l : Reg) (s : Reg) : Statement (.rrdb l s) := rfl

theorem ldk (d : Reg) (n : BitVec 4) : Statement (.ldk d n) := rfl

theorem rldb (l : Reg) (s : Reg) : Statement (.rldb l s) := rfl

theorem ini (d : Reg) (s : Reg) (r : Reg) : Statement (.ini d s r) := rfl

theorem inib (d : Reg) (s : Reg) (r : Reg) : Statement (.inib d s r) := rfl

theorem inir (d : Reg) (s : Reg) (r : Reg) : Statement (.inir d s r) := rfl

theorem inirb (d : Reg) (s : Reg) (r : Reg) : Statement (.inirb d s r) := rfl

theorem ind (d : Reg) (s : Reg) (r : Reg) : Statement (.ind d s r) := rfl

theorem indb (d : Reg) (s : Reg) (r : Reg) : Statement (.indb d s r) := rfl

theorem indr (d : Reg) (s : Reg) (r : Reg) : Statement (.indr d s r) := rfl

theorem indrb (d : Reg) (s : Reg) (r : Reg) : Statement (.indrb d s r) := rfl

theorem outi (d : Reg) (s : Reg) (r : Reg) : Statement (.outi d s r) := rfl

theorem outib (d : Reg) (s : Reg) (r : Reg) : Statement (.outib d s r) := rfl

theorem otir (d : Reg) (s : Reg) (r : Reg) : Statement (.otir d s r) := rfl

theorem otirb (d : Reg) (s : Reg) (r : Reg) : Statement (.otirb d s r) := rfl

theorem outd (d : Reg) (s : Reg) (r : Reg) : Statement (.outd d s r) := rfl

theorem outdb (d : Reg) (s : Reg) (r : Reg) : Statement (.outdb d s r) := rfl

theorem otdr (d : Reg) (s : Reg) (r : Reg) : Statement (.otdr d s r) := rfl

theorem otdrb (d : Reg) (s : Reg) (r : Reg) : Statement (.otdrb d s r) := rfl

theorem sini (d : Reg) (s : Reg) (r : Reg) : Statement (.sini d s r) := rfl

theorem sinib (d : Reg) (s : Reg) (r : Reg) : Statement (.sinib d s r) := rfl

theorem sinir (d : Reg) (s : Reg) (r : Reg) : Statement (.sinir d s r) := rfl

theorem sinirb (d : Reg) (s : Reg) (r : Reg) : Statement (.sinirb d s r) := rfl

theorem sind (d : Reg) (s : Reg) (r : Reg) : Statement (.sind d s r) := rfl

theorem sindb (d : Reg) (s : Reg) (r : Reg) : Statement (.sindb d s r) := rfl

theorem sindr (d : Reg) (s : Reg) (r : Reg) : Statement (.sindr d s r) := rfl

theorem sindrb (d : Reg) (s : Reg) (r : Reg) : Statement (.sindrb d s r) := rfl

theorem souti (d : Reg) (s : Reg) (r : Reg) : Statement (.souti d s r) := rfl

theorem soutib (d : Reg) (s : Reg) (r : Reg) : Statement (.soutib d s r) := rfl

theorem sotir (d : Reg) (s : Reg) (r : Reg) : Statement (.sotir d s r) := rfl

theorem sotirb (d : Reg) (s : Reg) (r : Reg) : Statement (.sotirb d s r) := rfl

theorem soutd (d : Reg) (s : Reg) (r : Reg) : Statement (.soutd d s r) := rfl

theorem soutdb (d : Reg) (s : Reg) (r : Reg) : Statement (.soutdb d s r) := rfl

theorem sotdr (d : Reg) (s : Reg) (r : Reg) : Statement (.sotdr d s r) := rfl

theorem sotdrb (d : Reg) (s : Reg) (r : Reg) : Statement (.sotdrb d s r) := rfl

theorem inw (d : Reg) (src : PortOp) : Statement (.inw d src) := by cases src <;> rfl

theorem inb (d : Reg) (src : PortOp) : Statement (.inb d src) := by cases src <;> rfl

theorem sin (d : Reg) (port : Word) : Statement (.sin d port) := rfl

theorem sinb (d : Reg) (port : Word) : Statement (.sinb d port) := rfl

theorem outw (dst : PortOp) (s : Reg) : Statement (.outw dst s) := by cases dst <;> rfl

theorem outb (dst : PortOp) (s : Reg) : Statement (.outb dst s) := by cases dst <;> rfl

theorem sout (port : Word) (s : Reg) : Statement (.sout port s) := rfl

theorem soutb (port : Word) (s : Reg) : Statement (.soutb port s) := rfl

theorem halt : Statement (.halt) := rfl

theorem iret : Statement (.iret) := rfl

theorem mset : Statement (.mset) := rfl

theorem mres : Statement (.mres) := rfl

theorem mbit : Statement (.mbit) := rfl

theorem mreq (d : Reg) : Statement (.mreq d) := rfl

theorem di (a : BitVec 1) (b : BitVec 1) : Statement (.di a b) := rfl

theorem ei (a : BitVec 1) (b : BitVec 1) : Statement (.ei a b) := rfl

theorem ldctlRead (d : Reg) (k : BitVec 3) : Statement (.ldctlRead d k) := rfl

theorem ldctlWrite (s : Reg) (k : BitVec 3) : Statement (.ldctlWrite s k) := rfl

theorem sc (imm : BitVec 8) : Statement (.sc imm) := rfl

theorem ext0E (imm : BitVec 8) : Statement (.ext0E imm) := rfl

theorem ext0F (imm : BitVec 8) : Statement (.ext0F imm) := rfl

theorem ext4E (imm : BitVec 8) : Statement (.ext4E imm) := rfl

theorem ext4F (imm : BitVec 8) : Statement (.ext4F imm) := rfl

theorem ext8E (imm : BitVec 8) : Statement (.ext8E imm) := rfl

theorem ext8F (imm : BitVec 8) : Statement (.ext8F imm) := rfl

theorem ldbShort (d : Reg) (imm : Byte) : Statement (.ldbShort d imm) := rfl

theorem calr (disp : BitVec 12) : Statement (.calr disp) := rfl

theorem jr (c : CondCode) (disp : BitVec 8) : Statement (.jr c disp) := rfl

theorem dbjnz (d : Reg) (disp : BitVec 7) : Statement (.dbjnz d disp) := rfl

theorem djnz (d : Reg) (disp : BitVec 7) : Statement (.djnz d disp) := rfl

theorem undefined (w : Word) : Statement (.undefined w) := rfl

end Sys2Proof.Laws.EncodedLength
end

