-- ==== Sys2Proof/Tests/Slice0.lean ====
section
/-!
SUPPORT. Our own tests. The words decoded are filled in from the encodings of spec/opcode_table.json, the expected
results of the steps are those of 95_test_vectors.md (the suffix of a test's name is the vector's number there, R<n> for
the example of a rule), and the witnesses show that the hypotheses of each obligation can be met.
-/

namespace Sys2Proof.Tests

open Sys2Proof Sys2Proof.Machine

/-- The setup of 95_test_vectors.md section 0: Z8002, system mode, no request pending. -/
def start : State := { State.reset with irqReq := noRequests, fcw := 0x4000, pc := 0x100 }

/-- A Z8001 in segmented system mode. -/
def segStart : State := { start with cfg := { variant := .z8001 }, fcw := 0xC000 }

/-- Normal mode. -/
def userStart : State := { start with fcw := 0 }

/-- What `p` says of the state after one step that runs the words `ws` placed at `pc`. -/
def ran (s : State) (ws : List Word) (p : State → Bool) : Bool :=
  match step (s.placeWords s.pc ws) with
  | .next t => p t
  | _ => false

/-- The outcome is the fault `f`. -/
def faultsWith (o : Out) (f : Fault) : Bool :=
  match o with
  | .fault g => g == f
  | _ => false

set_option maxRecDepth 8000

/-! ### Decoding: every constructor at one row of the table, its word filled from the row's encoding -/

theorem test_decode_data_movement :
    decodeWords false [0x1406, 0x1234, 0x5678] = .ldlIM 6 0x12345678 ∧
    decodeWords false [0x14A6] = .ldlMem 6 (.mem (.ir 10)) ∧
    decodeWords false [0x94A6] = .ldlR 6 10 ∧
    decodeWords false [0x2006, 0x9C9C] = .ldbIM 6 0x9C ∧
    decodeWords false [0x30A6, 0xFFEE] = .ldbMem 6 (.ba 10 0xFFEE) ∧
    decodeWords false [0xA0A6] = .ldbR 6 10 ∧
    decodeWords false [0x2106, 0x1234] = .ldIM 6 0x1234 ∧
    decodeWords false [0x6106, 0x4568] = .ldMem 6 (.mem (.da (.nonseg 0x4568))) ∧
    decodeWords false [0xA1A6] = .ldR 6 10 ∧
    decodeWords false [0x4C05, 0x4568, 0x9C9C] = .ldbImm (.da (.nonseg 0x4568)) 0x9C ∧
    decodeWords false [0x4D35, 0x4568, 0x1234] = .ldImm (.x 3 (.nonseg 0x4568)) 0x1234 ∧
    decodeWords false [0x0C68] = .clrb (.mem (.ir 6)) ∧
    decodeWords false [0x4D08, 0x4568] = .clr (.mem (.da (.nonseg 0x4568))) ∧
    decodeWords false [0x136A] = .push 6 (.mem (.ir 10)) ∧
    decodeWords false [0x1CA1, 0x0605] = .ldm 6 (.ir 10) 5 ∧
    decodeWords false [0x5C09, 0x0A05, 0x4568] = .ldmTo (.da (.nonseg 0x4568)) 10 5 ∧
    decodeWords false [0x5D0A, 0x4568] = .ldlTo (.mem (.da (.nonseg 0x4568))) 10 ∧
    decodeWords false [0x116A] = .pushl 6 (.mem (.ir 10)) ∧
    decodeWords false [0x55A0, 0x4568] = .popl (.mem (.da (.nonseg 0x4568))) 10 ∧
    decodeWords false [0x57A3, 0x4568] = .pop (.mem (.x 3 (.nonseg 0x4568))) 10 ∧
    decodeWords false [0xACA6] = .exb 6 (.reg 10) ∧
    decodeWords false [0x2DA6] = .ex 6 (.mem (.ir 10)) ∧
    decodeWords false [0x6E0A, 0x4568] = .ldbTo (.mem (.da (.nonseg 0x4568))) 10 ∧
    decodeWords false [0x6F3A, 0x4568] = .ldTo (.mem (.x 3 (.nonseg 0x4568))) 10 ∧
    decodeWords false [0x3006, 0xFFEE] = .ldrbLoad 6 0xFFEE ∧
    decodeWords false [0x3106, 0xFFEE] = .ldrLoad 6 0xFFEE ∧
    decodeWords false [0x320A, 0xFFEE] = .ldrbStore 0xFFEE 10 ∧
    decodeWords false [0x330A, 0xFFEE] = .ldrStore 0xFFEE 10 ∧
    decodeWords false [0x3406, 0xFFEE] = .ldar 6 0xFFEE ∧
    decodeWords false [0x7606, 0x4568] = .lda 6 (.mem (.da (.nonseg 0x4568))) ∧
    decodeWords false [0x3506, 0xFFEE] = .ldrlLoad 6 0xFFEE ∧
    decodeWords false [0x370A, 0xFFEE] = .ldrlStore 0xFFEE 10 ∧
    decodeWords false [0xBD65] = .ldk 6 5 ∧
    decodeWords false [0xC6E7] = .ldbShort 6 0xE7 := by
  decide

theorem test_decode_arithmetic :
    decodeWords false [0x0006, 0x9C9C] = .addb 6 (.imm 0x9C) ∧
    decodeWords false [0x01A6] = .add 6 (.mem (.ir 10)) ∧
    decodeWords false [0x4206, 0x4568] = .subb 6 (.mem (.da (.nonseg 0x4568))) ∧
    decodeWords false [0x4336, 0x4568] = .sub 6 (.mem (.x 3 (.nonseg 0x4568))) ∧
    decodeWords false [0x0A06, 0x9C9C] = .cpb 6 (.imm 0x9C) ∧
    decodeWords false [0x0BA6] = .cp 6 (.mem (.ir 10)) ∧
    decodeWords false [0x5006, 0x4568] = .cpl 6 (.mem (.da (.nonseg 0x4568))) ∧
    decodeWords false [0x5236, 0x4568] = .subl 6 (.mem (.x 3 (.nonseg 0x4568))) ∧
    decodeWords false [0x5606, 0x4568] = .addl 6 (.mem (.da (.nonseg 0x4568))) ∧
    decodeWords false [0x5836, 0x4568] = .multl 6 (.mem (.x 3 (.nonseg 0x4568))) ∧
    decodeWords false [0x99A6] = .mult 6 (.reg 10) ∧
    decodeWords false [0x1A06, 0x1234, 0x5678] = .divl 6 (.imm 0x12345678) ∧
    decodeWords false [0x1BA6] = .div 6 (.mem (.ir 10)) ∧
    decodeWords false [0xB4A6] = .adcb 6 10 ∧
    decodeWords false [0xB5A6] = .adc 6 10 ∧
    decodeWords false [0xB6A6] = .sbcb 6 10 ∧
    decodeWords false [0xB7A6] = .sbc 6 10 ∧
    decodeWords false [0x4C01, 0x4568, 0x9C9C] = .cpbImm (.da (.nonseg 0x4568)) 0x9C ∧
    decodeWords false [0x4D31, 0x4568, 0x1234] = .cpImm (.x 3 (.nonseg 0x4568)) 0x1234 ∧
    decodeWords false [0x0C62] = .negb (.mem (.ir 6)) ∧
    decodeWords false [0x4D02, 0x4568] = .neg (.mem (.da (.nonseg 0x4568))) ∧
    decodeWords false [0xA865] = .incb (.reg 6) 5 ∧
    decodeWords false [0x2965] = .inc (.mem (.ir 6)) 5 ∧
    decodeWords false [0x6A05, 0x4568] = .decb (.mem (.da (.nonseg 0x4568))) 5 ∧
    decodeWords false [0x6B35, 0x4568] = .dec (.mem (.x 3 (.nonseg 0x4568))) 5 ∧
    decodeWords false [0xB060] = .dab 6 ∧
    decodeWords false [0xB160] = .extsb 6 ∧
    decodeWords false [0xB167] = .extsl 6 ∧
    decodeWords false [0xB16A] = .exts 6 := by
  decide

theorem test_decode_logical :
    decodeWords false [0x84A6] = .orb 6 (.reg 10) ∧
    decodeWords false [0x0506, 0x1234] = .or 6 (.imm 0x1234) ∧
    decodeWords false [0x06A6] = .andb 6 (.mem (.ir 10)) ∧
    decodeWords false [0x4706, 0x4568] = .and 6 (.mem (.da (.nonseg 0x4568))) ∧
    decodeWords false [0x4836, 0x4568] = .xorb 6 (.mem (.x 3 (.nonseg 0x4568))) ∧
    decodeWords false [0x89A6] = .xor 6 (.reg 10) ∧
    decodeWords false [0x0C60] = .comb (.mem (.ir 6)) ∧
    decodeWords false [0x4D00, 0x4568] = .com (.mem (.da (.nonseg 0x4568))) ∧
    decodeWords false [0x4C34, 0x4568] = .testb (.mem (.x 3 (.nonseg 0x4568))) ∧
    decodeWords false [0x8D64] = .test (.reg 6) ∧
    decodeWords false [0x4C36, 0x4568] = .tsetb (.mem (.x 3 (.nonseg 0x4568))) ∧
    decodeWords false [0x8D66] = .tset (.reg 6) ∧
    decodeWords false [0x5C08, 0x4568] = .testl (.mem (.da (.nonseg 0x4568))) ∧
    decodeWords false [0xAE6D] = .tccb 13 6 ∧
    decodeWords false [0xAF6D] = .tcc 13 6 := by
  decide

theorem test_decode_bit :
    decodeWords false [0xA26B] = .resb (.reg 6) 11 ∧
    decodeWords false [0x220A, 0x0600] = .resbDyn 6 10 ∧
    decodeWords false [0x630B, 0x4568] = .res (.mem (.da (.nonseg 0x4568))) 11 ∧
    decodeWords false [0x230A, 0x0600] = .resDyn 6 10 ∧
    decodeWords false [0xA46B] = .setb (.reg 6) 11 ∧
    decodeWords false [0x240A, 0x0600] = .setbDyn 6 10 ∧
    decodeWords false [0x650B, 0x4568] = .set (.mem (.da (.nonseg 0x4568))) 11 ∧
    decodeWords false [0x250A, 0x0600] = .setDyn 6 10 ∧
    decodeWords false [0xA66B] = .bitb (.reg 6) 11 ∧
    decodeWords false [0x260A, 0x0600] = .bitbDyn 6 10 ∧
    decodeWords false [0x670B, 0x4568] = .bit (.mem (.da (.nonseg 0x4568))) 11 ∧
    decodeWords false [0x270A, 0x0600] = .bitDyn 6 10 := by
  decide

theorem test_decode_shift_rotate :
    decodeWords false [0xB260] = .rlb 6 false ∧
    decodeWords false [0xB362] = .rl 6 true ∧
    decodeWords false [0xB264] = .rrb 6 false ∧
    decodeWords false [0xB366] = .rr 6 true ∧
    decodeWords false [0xB268] = .rlcb 6 false ∧
    decodeWords false [0xB36A] = .rlc 6 true ∧
    decodeWords false [0xB26C] = .rrcb 6 false ∧
    decodeWords false [0xB36E] = .rrc 6 true ∧
    decodeWords false [0xB261, 0xFFFB] = .sllb 6 0xFFFB ∧
    decodeWords false [0xB269, 0xFFFB] = .slab 6 0xFFFB ∧
    decodeWords false [0xB263, 0x0A00] = .sdlb 6 10 ∧
    decodeWords false [0xB26B, 0x0A00] = .sdab 6 10 ∧
    decodeWords false [0xB361, 0xFFFB] = .sll 6 0xFFFB ∧
    decodeWords false [0xB369, 0xFFFB] = .sla 6 0xFFFB ∧
    decodeWords false [0xB363, 0x0A00] = .sdl 6 10 ∧
    decodeWords false [0xB36B, 0x0A00] = .sda 6 10 ∧
    decodeWords false [0xB365, 0xFFFB] = .slll 6 0xFFFB ∧
    decodeWords false [0xB36D, 0xFFFB] = .slal 6 0xFFFB ∧
    decodeWords false [0xB367, 0x0A00] = .sdll 6 10 ∧
    decodeWords false [0xB36F, 0x0A00] = .sdal 6 10 ∧
    decodeWords false [0xBC7A] = .rrdb 7 10 ∧
    decodeWords false [0xBE7A] = .rldb 7 10 := by
  decide

theorem test_decode_control :
    decodeWords false [0x1E6D] = .jp 13 (.ir 6) ∧
    decodeWords false [0x9E0D] = .ret 13 ∧
    decodeWords false [0x5F30, 0x4568] = .call (.x 3 (.nonseg 0x4568)) ∧
    decodeWords false [0x7FE7] = .sc 0xE7 ∧
    decodeWords false [0xD9A7] = .calr 0x9A7 ∧
    decodeWords false [0xEDC3] = .jr 13 0xC3 ∧
    decodeWords false [0xF64D] = .dbjnz 6 0x4D ∧
    decodeWords false [0xF6CD] = .djnz 6 0x4D := by
  decide

theorem test_decode_block_loads :
    decodeWords false [0xBAA1, 0x0C6F] = .ldib 6 10 12 ∧
    decodeWords false [0xBBA1, 0x0C6F] = .ldi 6 10 12 ∧
    decodeWords false [0xBAA1, 0x0C67] = .ldirb 6 10 12 ∧
    decodeWords false [0xBBA1, 0x0C67] = .ldir 6 10 12 ∧
    decodeWords false [0xBAA9, 0x0C6F] = .lddb 6 10 12 ∧
    decodeWords false [0xBBA9, 0x0C6F] = .ldd 6 10 12 ∧
    decodeWords false [0xBAA9, 0x0C67] = .lddrb 6 10 12 ∧
    decodeWords false [0xBBA9, 0x0C67] = .lddr 6 10 12 := by
  decide

theorem test_decode_block_compares :
    decodeWords false [0xBAA0, 0x0C6D] = .cpib 6 10 12 13 ∧
    decodeWords false [0xBBA0, 0x0C6D] = .cpi 6 10 12 13 ∧
    decodeWords false [0xBAA4, 0x0C6D] = .cpirb 6 10 12 13 ∧
    decodeWords false [0xBBA4, 0x0C6D] = .cpir 6 10 12 13 ∧
    decodeWords false [0xBAA8, 0x0C6D] = .cpdb 6 10 12 13 ∧
    decodeWords false [0xBBA8, 0x0C6D] = .cpd 6 10 12 13 ∧
    decodeWords false [0xBAAC, 0x0C6D] = .cpdrb 6 10 12 13 ∧
    decodeWords false [0xBBAC, 0x0C6D] = .cpdr 6 10 12 13 ∧
    decodeWords false [0xBAA2, 0x0C6D] = .cpsib 6 10 12 13 ∧
    decodeWords false [0xBBA2, 0x0C6D] = .cpsi 6 10 12 13 ∧
    decodeWords false [0xBAA6, 0x0C6D] = .cpsirb 6 10 12 13 ∧
    decodeWords false [0xBBA6, 0x0C6D] = .cpsir 6 10 12 13 ∧
    decodeWords false [0xBAAA, 0x0C6D] = .cpsdb 6 10 12 13 ∧
    decodeWords false [0xBBAA, 0x0C6D] = .cpsd 6 10 12 13 ∧
    decodeWords false [0xBAAE, 0x0C6D] = .cpsdrb 6 10 12 13 ∧
    decodeWords false [0xBBAE, 0x0C6D] = .cpsdr 6 10 12 13 := by
  decide

theorem test_decode_translate :
    decodeWords false [0xB860, 0x0CAF] = .trib 6 10 12 ∧
    decodeWords false [0xB864, 0x0CAF] = .trirb 6 10 12 ∧
    decodeWords false [0xB868, 0x0CAF] = .trdb 6 10 12 ∧
    decodeWords false [0xB86C, 0x0CAF] = .trdrb 6 10 12 ∧
    decodeWords false [0xB8A2, 0x0C9F] = .trtib 10 9 12 ∧
    decodeWords false [0xB8A6, 0x0C9F] = .trtirb 10 9 12 ∧
    decodeWords false [0xB8AA, 0x0C9F] = .trtdb 10 9 12 ∧
    decodeWords false [0xB8AE, 0x0C9F] = .trtdrb 10 9 12 := by
  decide

theorem test_decode_input :
    decodeWords false [0x3BA0, 0x0C6F] = .ini 6 10 12 ∧
    decodeWords false [0x3AA0, 0x0C6F] = .inib 6 10 12 ∧
    decodeWords false [0x3BA0, 0x0C67] = .inir 6 10 12 ∧
    decodeWords false [0x3AA0, 0x0C67] = .inirb 6 10 12 ∧
    decodeWords false [0x3BA8, 0x0C6F] = .ind 6 10 12 ∧
    decodeWords false [0x3AA8, 0x0C6F] = .indb 6 10 12 ∧
    decodeWords false [0x3BA8, 0x0C67] = .indr 6 10 12 ∧
    decodeWords false [0x3AA8, 0x0C67] = .indrb 6 10 12 ∧
    decodeWords false [0x3DA6] = .inw 6 (.ir 10) ∧
    decodeWords false [0x3A64, 0x8765] = .inb 6 (.da 0x8765) ∧
    decodeWords false [0x3B65, 0x8765] = .sin 6 0x8765 ∧
    decodeWords false [0x3A65, 0x8765] = .sinb 6 0x8765 ∧
    decodeWords false [0x3F6A] = .outw (.ir 6) 10 ∧
    decodeWords false [0x3AA6, 0x8765] = .outb (.da 0x8765) 10 ∧
    decodeWords false [0x3BA7, 0x8765] = .sout 0x8765 10 ∧
    decodeWords false [0x3AA7, 0x8765] = .soutb 0x8765 10 := by
  decide

theorem test_decode_output :
    decodeWords false [0x3BA2, 0x0C6F] = .outi 6 10 12 ∧
    decodeWords false [0x3AA2, 0x0C6F] = .outib 6 10 12 ∧
    decodeWords false [0x3BA2, 0x0C67] = .otir 6 10 12 ∧
    decodeWords false [0x3AA2, 0x0C67] = .otirb 6 10 12 ∧
    decodeWords false [0x3BAA, 0x0C6F] = .outd 6 10 12 ∧
    decodeWords false [0x3AAA, 0x0C6F] = .outdb 6 10 12 ∧
    decodeWords false [0x3BAA, 0x0C67] = .otdr 6 10 12 ∧
    decodeWords false [0x3AAA, 0x0C67] = .otdrb 6 10 12 := by
  decide

theorem test_decode_special_io :
    decodeWords false [0x3BA1, 0x0C6F] = .sini 6 10 12 ∧
    decodeWords false [0x3AA1, 0x0C6F] = .sinib 6 10 12 ∧
    decodeWords false [0x3BA1, 0x0C67] = .sinir 6 10 12 ∧
    decodeWords false [0x3AA1, 0x0C67] = .sinirb 6 10 12 ∧
    decodeWords false [0x3BA9, 0x0C6F] = .sind 6 10 12 ∧
    decodeWords false [0x3AA9, 0x0C6F] = .sindb 6 10 12 ∧
    decodeWords false [0x3BA9, 0x0C67] = .sindr 6 10 12 ∧
    decodeWords false [0x3AA9, 0x0C67] = .sindrb 6 10 12 ∧
    decodeWords false [0x3BA3, 0x0C6F] = .souti 6 10 12 ∧
    decodeWords false [0x3AA3, 0x0C6F] = .soutib 6 10 12 ∧
    decodeWords false [0x3BA3, 0x0C67] = .sotir 6 10 12 ∧
    decodeWords false [0x3AA3, 0x0C67] = .sotirb 6 10 12 ∧
    decodeWords false [0x3BAB, 0x0C6F] = .soutd 6 10 12 ∧
    decodeWords false [0x3AAB, 0x0C6F] = .soutdb 6 10 12 ∧
    decodeWords false [0x3BAB, 0x0C67] = .sotdr 6 10 12 ∧
    decodeWords false [0x3AAB, 0x0C67] = .sotdrb 6 10 12 := by
  decide

theorem test_decode_system :
    decodeWords false [0x8C61] = .ldctlbRead 6 ∧
    decodeWords false [0x8CA9] = .ldctlbWrite 10 ∧
    decodeWords false [0x8D91] = .setflg 9 ∧
    decodeWords false [0x8D93] = .resflg 9 ∧
    decodeWords false [0x8D95] = .comflg 9 ∧
    decodeWords false [0x8D07] = .nop ∧
    decodeWords false [0x39A0] = .ldps (.ir 10) ∧
    decodeWords false [0x7A00] = .halt ∧
    decodeWords false [0x7B00] = .iret ∧
    decodeWords false [0x7B08] = .mset ∧
    decodeWords false [0x7B09] = .mres ∧
    decodeWords false [0x7B0A] = .mbit ∧
    decodeWords false [0x7B6D] = .mreq 6 ∧
    decodeWords false [0x7C03] = .di 1 1 ∧
    decodeWords false [0x7C07] = .ei 1 1 ∧
    decodeWords false [0x7D65] = .ldctlRead 6 5 ∧
    decodeWords false [0x7DAD] = .ldctlWrite 10 5 ∧
    decodeWords false [0x0EE7] = .ext0E 0xE7 ∧
    decodeWords false [0x0FE7] = .ext0F 0xE7 ∧
    decodeWords false [0x4EE7] = .ext4E 0xE7 ∧
    decodeWords false [0x4FE7] = .ext4F 0xE7 ∧
    decodeWords false [0x8EE7] = .ext8E 0xE7 ∧
    decodeWords false [0x8FE7] = .ext8F 0xE7 := by
  decide

theorem test_decode_undefined :
    decodeWords false [0x3600] = .undefined 0x3600 ∧ decodeWords false [0x9E10] = .undefined 0x9E10 := by
  decide

/-- The four forms of an address operand in segmented mode (R143), the mode field 0 of IM and DA (R141), and the ignored
bits of a second word (R165). -/
theorem test_decode_modes :
    decodeWords true [0x6101, 0x0512] = .ldMem 1 (.mem (.da (.short 5 0x12))) ∧
    decodeWords true [0x6101, 0x8500, 0x1234] = .ldMem 1 (.mem (.da (.long 5 0x1234))) ∧
    decodeWords true [0x6121, 0x0512] = .ldMem 1 (.mem (.x 2 (.short 5 0x12))) ∧
    decodeWords true [0x6121, 0x8500, 0x1234] = .ldMem 1 (.mem (.x 2 (.long 5 0x1234))) ∧
    decodeWords true [0x4D05, 0x8500, 0x1234, 0xBEEF] = .ldImm (.da (.long 5 0x1234)) 0xBEEF ∧
    decodeWords true [0x0101, 0x1234] = .add 1 (.imm 0x1234) ∧
    decodeWords true [0x0121] = .add 1 (.mem (.ir 2)) ∧
    decodeWords true [0xB842, 0x012F] = decodeWords true [0xB842, 0x0120] := by
  decide

/-- The bits of a table word are numbered from the first word up. -/
theorem test_decodeTableWord :
    decodeTableWord 16 0x8121 = some (.add 1 (.reg 2)) ∧
    decodeTableWord 32 0x12342101 = some (.ldIM 1 0x1234) ∧
    decodeTableWord 32 0x0310BB21 = some (.ldir 1 2 3) ∧
    decodeTableWord 16 0x2101 = some (.ldIM 1 0) := by
  decide

/-! ### Ill-formed terms: each check of WellFormed refuses one -/

/-- R141: a register field that the table marks `nonzero`. -/
theorem test_wf_nonzero :
    (Instr.add 1 (.mem (.ir 0))).wf false = false ∧
    (Instr.add 1 (.mem (.x 0 (.nonseg 0)))).wf false = false ∧
    (Instr.ldMem 1 (.ba 0 4)).wf false = false ∧
    (Instr.ldMem 1 (.bx 0 3)).wf false = false ∧
    (Instr.neg (.mem (.ir 0))).wf false = false ∧
    (Instr.push 0 (.reg 1)).wf false = false ∧ (Instr.pushl 0 (.reg 2)).wf false = false ∧
    (Instr.pop (.reg 1) 0).wf false = false ∧ (Instr.popl (.reg 2) 0).wf false = false ∧
    (Instr.inw 1 (.ir 0)).wf false = false ∧ (Instr.outb (.ir 0) 1).wf false = false := by
  decide

/-- R143: an address operand of the other mode. -/
theorem test_wf_address :
    (Instr.jp 8 (.da (.nonseg 0))).wf true = false ∧
    (Instr.jp 8 (.da (.short 1 0))).wf false = false ∧
    (Instr.jp 8 (.x 2 (.long 1 0))).wf false = false := by
  decide

/-- LDA has no IR mode; an undefined word is one that no row matches (R163). -/
theorem test_wf_other :
    (Instr.lda 1 (.mem (.ir 2))).wf false = false ∧ (Instr.undefined 0x8121).wf false = false ∧
    (Instr.undefined 0x3600).wf false = true := by
  decide

/-- R35 to R37, R137, R138: a pair field, a quad field and an address field. -/
theorem test_pairs_illegal :
    (Instr.ldlR 1 2).pairsLegal false = false ∧ (Instr.multl 2 (.reg 2)).pairsLegal false = false ∧
    (Instr.ldMem 1 (.mem (.ir 3))).pairsLegal true = false ∧
    (Instr.ldMem 1 (.mem (.ir 3))).pairsLegal false = true := by
  decide

/-! ### One step each -/

/-- EN10, EN11: a pointer in an odd register in segmented mode, and an odd pair. -/
theorem test_faults :
    faultsWith (step ((segStart.setReg 3 0x1234).placeWords 0x100 [0x2131])) .oddPair = true ∧
    faultsWith (step (start.placeWords 0x100 [0x9973])) .oddPair = true := by
  decide

theorem test_ldlIM_I3 : ran start [0x1406, 0x1234, 0x5678]
    (fun t => t.reg 6 == 0x1234 && t.reg 7 == 0x5678) = true := by decide

theorem test_ldbShort_I7a : ran start [0xC100]
    (fun t => t.fcw == 0x4050) = true := by decide

theorem test_ldbTo_BB1a : ran (((start.writeWord .data 0x1000 0x1234).setReg 1 0x005A).setReg 2 0x1001) [0x2E23]
    (fun t => t.readWord .data 0x1000 == 0x125A) = true := by decide

theorem test_ldMem_BB2a :
        ran (({ start with cfg := { variant := .z8001 }, fcw := 0xC000 }).writeWord .data 0x050012 0x7777) [0x6101,
      0x0512]
    (fun t => t.reg 1 == 0x7777 && t.pc == 0x0104) = true := by decide

theorem test_jr_BB3a : ran start [0xE800]
    (fun t => t.pc == 0x0102) = true := by decide

theorem test_djnz_BB4 : ran (({ start with pc := 0x0200, fcw := 0x40F0 }).setReg 1 1) [0xF181]
    (fun t => t.reg 1 == 0 && t.pc == 0x0202 && t.fcw == 0x40F0) = true := by decide

theorem test_jp_ST6 : ran (start.setReg 1 0x4001) [0x1E18]
    (fun t => t.pc == 0x4000) = true := by decide

theorem test_nop_ST7 : ran ({ start with refresh := 0x80FF }) [0x8D07]
    (fun t => t.refresh == 0x8000) = true := by decide

theorem test_ldIM_ST9 : ran ({ start with refresh := 0x8000 }) [0x2101, 0x1234]
    (fun t => t.refresh == 0x8001) = true := by decide

theorem test_ldctlWrite_ST10 : ran ((({ start with nspOff := 0x8000 }).setReg 15 0xF000).setReg 1 0) [0x7D1A]
    (fun t => t.fcw == 0 && t.reg 15 == 0x8000 && t.nspOff == 0xF000) = true := by decide

theorem test_ldTo_ME1 : ran ((start.setReg 1 0x1234).setReg 2 0x1000) [0x2F21]
    (fun t => t.readByte .data 0x1000 == 0x12 && t.readByte .data 0x1001 == 0x34) = true := by decide

theorem test_ldlMem_ME4 :
    ran (((start.setReg 2 0xFFFE).writeWord .data 0xFFFE 0x1111).writeWord .data 0x0 0x2222) [0x1424]
    (fun t => t.reg 4 == 0x1111 && t.reg 5 == 0x2222) = true := by decide

theorem test_tset_ME9 : ran (start.setReg 2 0x1000) [0x0D26]
    (fun t => t.readWord .data 0x1000 == 0xFFFF && t.fcw == 0x4000) = true := by decide

theorem test_undefined_EN5 : ran start [0x3600]
    (fun t => t.irqReq.trap && t.pc == 0x0102) = true := by decide

theorem test_lda_EN9 : ran ({ start with cfg := { variant := .z8001 }, fcw := 0xC000 }) [0x7602, 0x8512, 0x3456]
    (fun t => t.reg 2 == 0x8500 && t.reg 3 == 0x3456) = true := by decide

theorem test_ldm_EN12 :
        ran ((((start.setReg 2 0x1000).writeWord .data 0x1000 0x0001).writeWord .data 0x1002 0x0002).writeWord .data
      0x1004 0x0003) [0x1C21, 0x0E02]
    (fun t => t.reg 14 == 1 && t.reg 15 == 2 && t.reg 0 == 3) = true := by decide

theorem test_ldR_DM1 : ran (start.setReg 1 0x5555) [0xA112]
    (fun t => t.reg 2 == 0x5555 && t.fcw == 0x4000) = true := by decide

theorem test_push_DM5 : ran ((start.setReg 15 0).setReg 1 0x5555) [0x93F1]
    (fun t => t.reg 15 == 0xFFFE && t.readWord .data 0xFFFE == 0x5555) = true := by decide

theorem test_ex_DM9 : ran (start.setReg 1 0x1234) [0xAD11]
    (fun t => t.reg 1 == 0x1234) = true := by decide

theorem test_exb_DM10 : ran (start.setReg 0 0x1234) [0xAC10]
    (fun t => t.reg 0 == 0x3412) = true := by decide

theorem test_ldrLoad_DM11 : ran (start.writeWord .data 0x0114 0x4242) [0x3101, 0x0010]
    (fun t => t.reg 1 == 0x4242) = true := by decide

theorem test_pop_DM12 : ran ((start.setReg 15 0x7FFE).writeWord .data 0x7FFE 0x2222) [0x97F1]
    (fun t => t.reg 1 == 0x2222 && t.reg 15 == 0x8000) = true := by decide

theorem test_clrb_DM13 : ran (start.setReg 0 0xFFFF) [0x8C18]
    (fun t => t.reg 0 == 0xFF00 && t.fcw == 0x4000) = true := by decide

theorem test_ldk_DM14 : ran (start.setReg 3 0xFFFF) [0xBD3F]
    (fun t => t.reg 3 == 0x000F) = true := by decide

theorem test_add_AR1 : ran ((start.setReg 1 0x7FFF).setReg 2 1) [0x8121]
    (fun t => t.reg 1 == 0x8000 && t.fcw == 0x4030) = true := by decide

theorem test_addb_AR5 : ran ((start.setReg 0 0x7F).setReg 1 1) [0x8031]
    (fun t => t.reg 0 == 0x80 && t.fcw == 0x4034) = true := by decide

theorem test_sub_AR7 : ran ((start.setReg 1 0x8000).setReg 2 1) [0x8321]
    (fun t => t.reg 1 == 0x7FFF && t.fcw == 0x4010) = true := by decide

theorem test_subb_AR9 : ran ((start.setReg 0 0).setReg 1 1) [0x8231]
    (fun t => t.reg 0 == 0xFF && t.fcw == 0x40AC) = true := by decide

theorem test_adc_AR10 : ran (({ start with fcw := 0x4080 }).setReg 0 0x7FFF) [0xB510]
    (fun t => t.reg 0 == 0x8000 && t.fcw == 0x4030) = true := by decide

theorem test_sbc_AR11 : ran ({ start with fcw := 0x4080 }) [0xB710]
    (fun t => t.reg 0 == 0xFFFF && t.fcw == 0x40A0) = true := by decide

theorem test_adcb_AR12 : ran (({ start with fcw := 0x4080 }).setReg 0 0xFF) [0xB431]
    (fun t => t.reg 0 == 0 && t.fcw == 0x40C4) = true := by decide

theorem test_cp_AR13 : ran ((start.setReg 1 0x1234).setReg 2 0x1234) [0x8B21]
    (fun t => t.fcw == 0x4040) = true := by decide

theorem test_inc_AR15 : ran (({ start with fcw := 0x4080 }).setReg 2 0xFFF0) [0xA92F]
    (fun t => t.reg 2 == 0 && t.fcw == 0x40C0) = true := by decide

theorem test_dec_AR16 : ran (start.setReg 3 0x8000) [0xAB30]
    (fun t => t.reg 3 == 0x7FFF && t.fcw == 0x4010) = true := by decide

theorem test_neg_AR17 : ran start [0x8D12]
    (fun t => t.reg 1 == 0 && t.fcw == 0x4040) = true := by decide

theorem test_mult_AR19 : ran ((start.setReg 5 0xFFFF).setReg 7 0x8000) [0x9974]
    (fun t => t.reg 4 == 0 && t.reg 5 == 0x8000 && t.fcw == 0x4080) = true := by decide

theorem test_div_AR23 : ran (((start.setReg 4 0xFFFF).setReg 5 0xFFF9).setReg 7 2) [0x9B74]
    (fun t => t.reg 5 == 0xFFFD && t.reg 4 == 0xFFFF && t.fcw == 0x4020) = true := by decide

theorem test_divl_AR30 :
        ran ((((((start.setReg 0 0xFFFF).setReg 1 0xFFFF).setReg 2 0xFFFF).setReg 3 0xFF9C).setReg 4 0).setReg 5 7)
      [0x9A40]
    (fun t => t.reg 2 == 0xFFFF && t.reg 3 == 0xFFF2 && t.reg 0 == 0xFFFF && t.reg 1 == 0xFFFE && t.fcw ==
      0x4020) = true := by decide

theorem test_addl_AR31 : ran ((((start.setReg 2 0x7FFF).setReg 3 0xFFFF).setReg 4 0).setReg 5 1) [0x9642]
    (fun t => t.reg 2 == 0x8000 && t.reg 3 == 0 && t.fcw == 0x4030) = true := by decide

theorem test_subl_AR32 : ran (start.setReg 3 1) [0x9220]
    (fun t => t.reg 0 == 0xFFFF && t.reg 1 == 0xFFFF && t.fcw == 0x40A0) = true := by decide

theorem test_extsb_AR33 : ran (start.setReg 2 0x127F) [0xB120]
    (fun t => t.reg 2 == 0x7F && t.fcw == 0x4000) = true := by decide

theorem test_exts_AR34 : ran ((start.setReg 2 0x1234).setReg 3 0x7FFF) [0xB12A]
    (fun t => t.reg 2 == 0 && t.reg 3 == 0x7FFF) = true := by decide

theorem test_and_LG1 : ran ((start.setReg 1 0x0F0F).setReg 2 0xF0F0) [0x8721]
    (fun t => t.reg 1 == 0 && t.fcw == 0x4050) = true := by decide

theorem test_or_LG2 : ran ((start.setReg 1 1).setReg 2 2) [0x8521]
    (fun t => t.reg 1 == 3 && t.fcw == 0x4010) = true := by decide

theorem test_xor_LG3 : ran ((start.setReg 1 0xFFFF).setReg 2 0xFF) [0x8921]
    (fun t => t.reg 1 == 0xFF00 && t.fcw == 0x4030) = true := by decide

theorem test_comb_LG4 : ran (start.setReg 0 0x12FF) [0x8C10]
    (fun t => t.reg 0 == 0x1200 && t.fcw == 0x4050) = true := by decide

theorem test_test_LG5 : ran (start.setReg 1 0x100) [0x8D14]
    (fun t => t.fcw == 0x4010) = true := by decide

theorem test_tcc_LG8 : ran (({ start with fcw := 0x4040 }).setReg 4 0x1231) [0xAF4E]
    (fun t => t.reg 4 == 0x1230) = true := by decide

theorem test_bit_LG10 : ran (start.setReg 1 0x7FFF) [0xA71F]
    (fun t => t.fcw == 0x4040) = true := by decide

theorem test_bitDyn_LG12 : ran ((start.setReg 2 0x10).setReg 1 0xFFFF) [0x2702, 0x0100]
    (fun t => t.fcw == 0x4040) = true := by decide

theorem test_setDyn_LG13 : ran ((start.setReg 2 0x14).setReg 1 0) [0x2502, 0x0100]
    (fun t => t.reg 1 == 0) = true := by decide

theorem test_setbDyn_LG14 : ran (start.setReg 2 8) [0x2402, 0x0100]
    (fun t => t.reg 0 == 0) = true := by decide

theorem test_resDyn_LG15 : ran ((start.setReg 2 0x25).setReg 1 0xFFFF) [0x2302, 0x0100]
    (fun t => t.reg 1 == 0xFFDF) = true := by decide

theorem test_sla_SH1 : ran (start.setReg 1 0x4000) [0xB319, 0x0001]
    (fun t => t.reg 1 == 0x8000 && t.fcw == 0x4030) = true := by decide

theorem test_rl_SH9 : ran (start.setReg 1 0xC000) [0xB312]
    (fun t => t.reg 1 == 3 && flagC t.fcw && !flagZ t.fcw && !flagS t.fcw && flagPV t.fcw) = true := by decide

theorem test_rlc_SH10 : ran (({ start with fcw := 0x4080 }).setReg 1 0x8000) [0xB31A]
    (fun t => t.reg 1 == 3 && !flagC t.fcw && !flagZ t.fcw && !flagS t.fcw && flagPV t.fcw) = true := by decide

theorem test_rldb_SH11 : ran (start.setReg 0 0x12) [0xBE11]
    (fun t => t.reg 0 == 0x11) = true := by decide

theorem test_slab_SH12 : ran (start.setReg 0 0x80) [0xB219, 0x00F8]
    (fun t => t.reg 0 == 0xFF && flagC t.fcw && !flagZ t.fcw && flagS t.fcw && !flagPV t.fcw) = true := by
      decide

theorem test_sda_SH14 : ran ((start.setReg 2 0xFFFE).setReg 1 0x8000) [0xB31B, 0x0200]
    (fun t => t.reg 1 == 0xE000 && t.reg 2 == 0xFFFE && !flagC t.fcw && !flagZ t.fcw && flagS t.fcw && !flagPV
      t.fcw) = true := by decide

theorem test_rr_SH16 : ran (start.setReg 1 1) [0xB314]
    (fun t => t.reg 1 == 0x8000 && flagC t.fcw && flagS t.fcw && !flagZ t.fcw && flagPV t.fcw) = true := by
      decide

theorem test_rrc_SH17 : ran ({ start with fcw := 0x4080 }) [0xB31C]
    (fun t => t.reg 1 == 0x8000 && !flagC t.fcw && flagS t.fcw && !flagZ t.fcw && flagPV t.fcw) = true := by
      decide

theorem test_dbjnz_CT7 : ran (({ start with pc := 0x300 }).setReg 0 0x1200) [0xF101]
    (fun t => t.reg 0 == 0x12FF && t.pc == 0x300) = true := by decide

theorem test_call_CT8 : ran ((start.setReg 15 0x1000).setReg 1 0x3001) [0x1F10]
    (fun t => t.readWord .data 0x0FFE == 0x0102 && t.reg 15 == 0xFFE && t.pc == 0x3000) = true := by decide

theorem test_ret_CT10 : ran (({ start with pc := 0x400 }).setReg 15 0xFFE) [0x9E06]
    (fun t => t.reg 15 == 0xFFE && t.pc == 0x402) = true := by decide

theorem test_calr_CT12 : ran (({ start with pc := 0x1000 }).setReg 15 0x1000) [0xD800]
    (fun t => t.readWord .data 0x0FFE == 0x1002 && t.pc == 0x2002) = true := by decide

theorem test_sc_CT17 : ran start [0x7F05]
    (fun t => t.irqReq.syscall && t.pc == 0x102) = true := by decide

theorem test_ldi_BK1 :
    ran ((((start.setReg 1 0x2000).setReg 2 0x1000).setReg 3 1).writeWord .data 0x1000 0xBEEF) [0xBB21, 0x0310]
    (fun t => t.readWord .data 0x2000 == 0xBEEF && t.reg 1 == 0x2002 && t.reg 2 == 0x1002 && t.reg 3 == 0 &&
      t.fcw == 0x4010 && t.pc == 0x104) = true := by decide

theorem test_trtib_BK12 :
        ran (((((start.writeByte .data 0x3020 0xFF).writeByte .data 0x1000 0x20).setReg 4 0x1000).setReg 2
      0x3000).setReg 1 5) [0xB842, 0x0120]
    (fun t => t.reg 1 == 0xFF04 && !flagZ t.fcw && !flagPV t.fcw && t.reg 4 == 0x1001) = true := by decide

theorem test_inw_IO9 : ran (({ start with fcw := 0 }).setReg 1 0x5555) [0x3B14, 0x0010]
    (fun t => t.reg 1 == 0x5555 && t.irqReq.trap && t.pc == 0x102) = true := by decide

theorem test_ldctlRead_SY1 : ran start [0x7D12]
    (fun t => t.reg 1 == 0x4000) = true := by decide

theorem test_ldps_SY9 :
        ran (((({ start with pc := 0x200 }).setReg 1 0x100).writeWord .data 0x100 0x4080).writeWord .data 0x102
      0x1234) [0x3910]
    (fun t => t.fcw == 0x4080 && t.pc == 0x1234) = true := by decide

theorem test_ldctlbRead_SY11 : ran ({ start with fcw := 0x40C4 }) [0x8C11]
    (fun t => t.reg 0 == 0xC4) = true := by decide

theorem test_ldctlbWrite_SY12 : ran (start.setReg 0 0xFF) [0x8C19]
    (fun t => t.fcw == 0x40FC) = true := by decide

theorem test_setflg_SY13 : ran ({ start with fcw := 0 }) [0x8DF1]
    (fun t => t.fcw == 0xF0) = true := by decide

theorem test_resflg_SY14 : ran ({ start with fcw := 0x40F0 }) [0x8D43]
    (fun t => t.fcw == 0x40B0) = true := by decide

theorem test_comflg_SY15 : ran ({ start with fcw := 0x4080 }) [0x8DC5]
    (fun t => t.fcw == 0x4040) = true := by decide

theorem test_ei_SY16 : ran start [0x7C04]
    (fun t => t.fcw == 0x5800) = true := by decide

theorem test_di_SY19 : ran ({ start with fcw := 0x5800 }) [0x7C02]
    (fun t => t.fcw == 0x4800) = true := by decide

theorem test_halt_SY21 : ran start [0x7A00]
    (fun t => t.halt && t.pc == 0x102) = true := by decide

theorem test_iret_SY23 :
        ran ((((({ start with nspOff := 0x9000 }).setReg 15 0xFDFA).writeWord .data 0xFDFA 0x7F05).writeWord .data
      0xFDFC 0).writeWord .data 0xFDFE 0x0402) [0x7B00]
    (fun t => t.reg 15 == 0x9000 && t.nspOff == 0xFE00 && t.fcw == 0 && t.pc == 0x402) = true := by decide

theorem test_pushl_R223 : ran (((start.setReg 15 0x8000).setReg 2 0x1234).setReg 3 0x5678) [0x91F2]
    (fun t => t.reg 15 == 0x7FFC) = true := by decide

theorem test_clr_R226 : ran start [0x8D18]
    (fun t => t.reg 1 == 0) = true := by decide

theorem test_sbcb_R260 : ran ((({ start with fcw := 0x4080 }).setByteReg 1 0).setByteReg 3 0) [0xB631]
    (fun t => t.byteReg 1 == 0xFF && flagC t.fcw && flagH t.fcw) = true := by decide

theorem test_cpb_R263 : ran ((start.setByteReg 1 0x80).setByteReg 3 1) [0x8A31]
    (fun t => flagPV t.fcw && !flagS t.fcw && !flagC t.fcw) = true := by decide

theorem test_cpl_R265 : ran start [0x9020]
    (fun t => flagZ t.fcw) = true := by decide

theorem test_negb_R267 : ran (start.setByteReg 1 5) [0x8C12]
    (fun t => t.byteReg 1 == 0xFB) = true := by decide

theorem test_incb_R269 : ran (start.setByteReg 1 0x7F) [0xA810]
    (fun t => t.byteReg 1 == 0x80 && flagPV t.fcw) = true := by decide

theorem test_decb_R271 : ran (start.setByteReg 1 0) [0xAA10]
    (fun t => t.byteReg 1 == 0xFF) = true := by decide

theorem test_multl_R273 : ran ((((start.setReg 6 0xFFFF).setReg 7 0xFFFF).setReg 0 0).setReg 1 2) [0x9804]
    (fun t => t.reg 4 == 0xFFFF && t.reg 5 == 0xFFFF && t.reg 6 == 0xFFFF && t.reg 7 == 0xFFFE && flagS t.fcw &&
      !flagC t.fcw) = true := by decide

theorem test_extsl_R287 : ran ((start.setReg 6 0).setReg 7 1) [0xB147]
    (fun t => t.reg 4 == 0 && t.reg 5 == 0) = true := by decide

theorem test_andb_R302 : ran ((start.setByteReg 1 0xF3).setByteReg 3 0x3F) [0x8631]
    (fun t => t.byteReg 1 == 0x33 && flagPV t.fcw) = true := by decide

theorem test_orb_R304 : ran (start.setByteReg 1 0) [0x0401, 0x0080]
    (fun t => t.byteReg 1 == 0x80 && flagS t.fcw && !flagPV t.fcw) = true := by decide

theorem test_xorb_R306 : ran (start.setByteReg 1 0xFF) [0x0801, 0x000F]
    (fun t => t.byteReg 1 == 0xF0 && flagS t.fcw && flagPV t.fcw) = true := by decide

theorem test_com_R307 : ran (start.setReg 1 0xFF) [0x8D10]
    (fun t => t.reg 1 == 0xFF00 && flagS t.fcw && flagPV t.fcw) = true := by decide

theorem test_testb_R310 : ran (start.setByteReg 0 0x81) [0x8C04]
    (fun t => flagS t.fcw && flagPV t.fcw) = true := by decide

theorem test_testl_R311 : ran ((start.setReg 2 0x8000).setReg 3 0) [0x9C28]
    (fun t => flagS t.fcw && !flagZ t.fcw) = true := by decide

theorem test_bitb_R317 : ran (start.setByteReg 1 0x80) [0xA617]
    (fun t => !flagZ t.fcw) = true := by decide

theorem test_set_R318 : ran (start.setReg 1 0) [0xA51F]
    (fun t => t.reg 1 == 0x8000) = true := by decide

theorem test_setb_R319 : ran (start.setByteReg 1 0) [0xA410]
    (fun t => t.byteReg 1 == 1) = true := by decide

theorem test_res_R320 : ran (start.setReg 1 0xFFFF) [0xA310]
    (fun t => t.reg 1 == 0xFFFE) = true := by decide

theorem test_bitbDyn_R324 : ran ((start.setReg 2 7).setByteReg 1 0x80) [0x2602, 0x0100]
    (fun t => !flagZ t.fcw) = true := by decide

theorem test_resbDyn_R328 : ran ((start.setReg 2 7).setByteReg 1 0xFF) [0x2202, 0x0100]
    (fun t => t.byteReg 1 == 0x7F) = true := by decide

theorem test_rlb_R342 : ran (start.setByteReg 1 0x81) [0xB212]
    (fun t => t.byteReg 1 == 6 && !flagC t.fcw) = true := by decide

theorem test_rrb_R346 : ran (start.setByteReg 1 3) [0xB216]
    (fun t => t.byteReg 1 == 0xC0 && flagC t.fcw) = true := by decide

theorem test_slal_R351 : ran ((start.setReg 2 0).setReg 3 0x8000) [0xB32D, 0x0001]
    (fun t => t.reg 2 == 1 && t.reg 3 == 0 && !flagC t.fcw) = true := by decide

theorem test_sdab_R356 : ran ((start.setReg 2 1).setByteReg 1 1) [0xB21B, 0x0200]
    (fun t => t.byteReg 1 == 2) = true := by decide

theorem test_sdal_R357 : ran (((start.setReg 0 0x10).setReg 2 0).setReg 3 1) [0xB32F, 0x0000]
    (fun t => t.reg 2 == 1 && t.reg 3 == 0) = true := by decide

theorem test_sdll_R360 : ran (((start.setReg 0 0xF0).setReg 2 0x1234).setReg 3 0) [0xB327, 0x0000]
    (fun t => t.reg 2 == 0 && t.reg 3 == 0x1234) = true := by decide

theorem test_ldd_R405 :
    ran ((((start.setReg 1 0x2002).setReg 2 0x1002).setReg 3 1).writeWord .data 0x1002 0x5555) [0xBB29, 0x0318]
    (fun t => t.readWord .data 0x2002 == 0x5555 && t.reg 1 == 0x2000 && t.reg 2 == 0x1000 && t.reg 3 == 0 &&
      flagPV t.fcw) = true := by decide

theorem test_lddb_R406 :
    ran ((((start.setReg 1 0x2001).setReg 2 0x1001).setReg 3 5).writeByte .data 0x1001 0x7E) [0xBA29, 0x0318]
    (fun t => t.readByte .data 0x2001 == 0x7E && t.reg 1 == 0x2000 && t.reg 2 == 0x1000 && t.reg 3 == 4) = true
      := by decide

/-! ### The bus adaptor: a placeholder reaches the instruction and SEGTRAP is taken at the next boundary (R104, R608) -/

/-- `start` with an adaptor that turns the access `k` of the bytes or ports `ns` into a segmentation trap, and answers
0xEE to a read. -/
def guardedStart (k : Access) (ns : List Nat) : State := start.setGuards (ns.map fun n => ⟨k, n, 0xEE⟩)

/-- The load completes with the placeholder, and SEGTRAP is pending. -/
theorem test_ld_guarded_R104 :
    ran (((guardedStart (.read .data) [0x2000, 0x2001]).setReg 2 0x2000).poke 0x2000 0x12) [0x2121]
      (fun t => t.reg 1 == 0xEEEE && t.irqReq.segtrap && t.pc == 0x102) = true := by
  decide

/-- Another role of the same byte is not trapped. -/
theorem test_ld_other_role_R91 :
    ran (((guardedStart (.read .stack) [0x2000]).setReg 2 0x2000).poke 0x2000 0x12) [0x2121]
      (fun t => t.reg 1 == 0x1200 && !t.irqReq.segtrap) = true := by
  decide

/-- The immediate of the instruction is a placeholder too. -/
theorem test_fetch_guarded_R608 : ran (guardedStart (.read .program) [0x102]) [0x2101, 0x1234]
    (fun t => t.reg 1 == 0xEE34 && t.irqReq.segtrap) = true := by
  decide

/-- The store completes (log 29). -/
theorem test_store_guarded_R608 :
    ran (((guardedStart (.write .data) [0x2001]).setReg 2 0x2000).setReg 1 0x1234) [0x2F21]
      (fun t => t.mem.read 0x2000 == 0x12 && t.mem.read 0x2001 == 0x34 && t.irqReq.segtrap) = true := by
  decide

/-- An output to a port, and one to another port. -/
theorem test_out_guarded_R608 :
    ran (guardedStart (.output .normal) [0x0055]) [0x3B16, 0x0055] (fun t => t.irqReq.segtrap) = true ∧
    ran (guardedStart (.output .normal) [0x0056]) [0x3B16, 0x0055] (fun t => t.irqReq.segtrap) = false := by
  decide

/-- At the boundary SEGTRAP comes before NVI, with `irq_vec` as its tag. -/
theorem test_segtrap_service_EX11 :
    let s := { start.requestSegtrap with nviLine := true, fcw := 0x4800, irqVec := 0x0BAD }
    let t := ((s.setReg 15 0x8000).pokeWord 0x10 0x4000).pokeWord 0x12 0x0400
    t.topCause = some .segtrap ∧ t.service.pc = 0x0400 ∧ t.service.readWord .stack 0x7FFA = 0x0BAD ∧
      t.service.irqReq.segtrap = false := by
  decide

/-- R30: the host's long accessors. -/
theorem test_host_long_R30 :
    (start.hostSetLongReg 6 0x12345678).map (fun t => (t.reg 6, t.reg 7, t.hostLongReg 6)) =
      some (0x1234, 0x5678, some 0x12345678) ∧
    start.hostSetLongReg 7 0 = none := by
  decide

/-! ### Witnesses: states and operands that meet the hypotheses of each obligation -/

/-- An outcome is a next state. -/
def isNext (o : Out) : Bool :=
  match o with
  | .next _ => true
  | _ => false

theorem exists_next {o : Out} (h : isNext o = true) : ∃ t, o = .next t := by
  cases o with
  | next t => exact ⟨t, rfl⟩
  | fault f => exact absurd h Bool.noConfusion
  | refused r => exact absurd h Bool.noConfusion

/-- `start` with a program status area at 0 whose handler for TRAP runs in system mode, and an adaptor for one byte. -/
def handlerStart : State := ((start.setGuards [⟨.read .data, 0x5000, 0⟩]).writeWord .program 8 0x4000).writeWord .program 0x0A 0x0400

/-- Operands in segmented mode, at the last pair, and outside it, at an odd register. -/
theorem witness_LoadsFillTheRegister :
    (LdMem.bx 14 15).pairs segStart.segmented = true ∧ evenReg 14 = true ∧ evenReg 0 = true ∧
    (LdMem.mem (.ir 15)).pairs start.segmented = true := by
  decide

theorem witness_ByteLoadsFillHalfARegister :
    (LdMem.ba 14 0xFFFF).pairs segStart.segmented = true ∧
    (LdMem.mem (.ir 15)).pairs start.segmented = true := by
  decide

theorem witness_StoresWriteTheirBytesOnly :
    (LdMem.mem (.ir 14)).pairs segStart.segmented = true ∧ (MemOp.ir 14).pairs segStart.segmented = true ∧
    evenReg 14 = true ∧ (LdMem.bx 15 1).pairs start.segmented = true := by
  decide

theorem witness_ClearsTestAndSetsTestConditions :
    (RegMem.reg 15).pairs segStart.segmented = true ∧ (RegMem.mem (.ir 14)).pairs segStart.segmented = true ∧
    (RegMem.mem (.ir 15)).pairs start.segmented = true := by
  decide

theorem witness_LoadAddressGivesTheAddress :
    (ptrReg segStart.segmented 14 = true ∧ (LdMem.ba 14 4).pairs segStart.segmented = true ∧
      segStart.segmented = true) ∧
    (ptrReg start.segmented 15 = true ∧ (LdMem.bx 15 1).pairs start.segmented = true ∧ start.segmented = false) := by
  decide

theorem witness_LoadMultipleMovesEveryWord :
    (MemOp.ir 14).pairs segStart.segmented = true ∧ (MemOp.ir 15).pairs start.segmented = true ∧
    15 ≤ (15 : BitVec 4).toNat ∧ 0 ≤ (0 : BitVec 4).toNat := by
  decide

theorem witness_ExchangeSwapsOperands :
    (RegMem.reg 15).pairs segStart.segmented = true ∧ (RegMem.mem (.ir 14)).pairs segStart.segmented = true := by
  decide

theorem witness_PushesAndPopsMoveTheStack :
    ptrReg segStart.segmented 14 = true ∧ ptrReg start.segmented 15 = true ∧
    (Source.mem (α := Word) (.ir 12)).pairs segStart.segmented = true ∧
    (RegMem.reg 12).pairsL segStart.segmented = true ∧ (RegMem.mem (.ir 13)).pairsL start.segmented = true ∧
    (MemOp.ir 12).pairs segStart.segmented = true ∧ evenReg 14 = true ∧
    (15 : Reg) ≠ start.offsetReg 14 ∧ segStart.offsetReg 14 ∉ ([12, 12 + 1] : List Reg) := by
  decide

theorem witness_PopUndoesPush :
    ptrReg segStart.segmented 14 = true ∧ (14 : Reg) ≠ segStart.offsetReg 14 ∧
    (Source.reg (α := Word) 1).pairs segStart.segmented = true ∧ (RegMem.reg 2).pairsL segStart.segmented = true ∧
    evenReg 2 = true ∧ segStart.offsetReg 14 ≠ 2 + 1 ∧
    (∀ g ∈ (segStart.setGuards [⟨.read .data, 0, 0⟩]).guards, g.access ≠ .read .stack) := by
  decide

theorem witness_AdditionsGiveSumAndFlags :
    (Source.mem (α := Word) (.ir 14)).pairs segStart.segmented = true ∧
    (Source.mem (α := Byte) (.ir 15)).pairs start.segmented = true ∧
    (Source.reg (α := Long) 14).pairsL segStart.segmented = true ∧ evenReg 14 = true := by
  decide

theorem witness_SubtractionsGiveDifferenceAndFlags :
    (Source.imm (0x8000 : Word)).pairs segStart.segmented = true ∧
    (Source.mem (α := Byte) (.ir 14)).pairs segStart.segmented = true ∧
    (Source.mem (α := Long) (.ir 15)).pairsL start.segmented = true ∧ evenReg 0 = true := by
  decide

theorem witness_ComparisonsOnlySetFlags :
    (Source.reg (α := Word) 15).pairs segStart.segmented = true ∧
    (Source.mem (α := Byte) (.ir 14)).pairs segStart.segmented = true ∧
    (Source.reg (α := Long) 14).pairsL segStart.segmented = true ∧ evenReg 14 = true ∧
    (MemOp.ir 14).pairs segStart.segmented = true := by
  decide

/-- The flags of 0x8000 - 1, which overflows, and of 5 - 5. -/
theorem witness_ConditionCodesOrderOperands :
    SubFlags (0x8000 : Word) 1 false 0x4010 ∧ SubFlags (5 : Word) 5 false 0x4040 := by
  unfold SubFlags ZeroSign Fits
  decide

theorem witness_CountingAndNegationFlags :
    (RegMem.reg 15).pairs segStart.segmented = true ∧ (RegMem.mem (.ir 14)).pairs segStart.segmented = true := by
  decide

theorem witness_MultiplicationIsExact :
    (Source.reg (α := Word) 15).pairs segStart.segmented = true ∧ evenReg 14 = true ∧
    (Source.reg (α := Long) 14).pairsL segStart.segmented = true ∧ quadReg 12 = true := by
  decide

/-- Quotients at both ends of the range: -32768 / 1 and 32767 / 1. -/
theorem witness_DivisionGivesQuotientAndRemainder :
    let s := start.setLongReg 2 0xFFFF8000
    let t := start.setLongReg 2 0x00007FFF
    let q := start.setQuadReg 4 0xFFFFFFFF80000000
    ((Source.imm (1 : Word)).pairs s.segmented = true ∧ evenReg 2 = true ∧
      ((Source.imm (1 : Word)).value wordW s).toInt ≠ 0 ∧
      Fits 16 (Int.tdiv (s.longReg 2).toInt ((Source.imm (1 : Word)).value wordW s).toInt)) ∧
    Fits 16 (Int.tdiv (t.longReg 2).toInt ((Source.imm (1 : Word)).value wordW t).toInt) ∧
    ((Source.imm (1 : Long)).pairsL q.segmented = true ∧ quadReg 4 = true ∧
      ((Source.imm (1 : Long)).value longW q).toInt ≠ 0 ∧
      Fits 32 (Int.tdiv (q.quadReg 4).toInt ((Source.imm (1 : Long)).value longW q).toInt)) := by
  unfold Fits
  decide

/-- The two ways, just past the range: by 0, and the quotients 32768 and 2 ^ 31. -/
theorem witness_BadDivisionSetsOverflow :
    let s := start.setLongReg 2 0x00008000
    let q := start.setQuadReg 4 0x80000000
    ((Source.imm (0 : Word)).value wordW s).toInt = 0 ∧ (Source.imm (1 : Word)).pairs s.segmented = true ∧
    evenReg 2 = true ∧
    ¬ Fits 16 (Int.tdiv (s.longReg 2).toInt ((Source.imm (1 : Word)).value wordW s).toInt) ∧
    (Source.imm (1 : Long)).pairsL q.segmented = true ∧ quadReg 4 = true ∧
    ¬ Fits 32 (Int.tdiv (q.quadReg 4).toInt ((Source.imm (1 : Long)).value longW q).toInt) := by
  unfold Fits
  decide

theorem witness_ExtensionsKeepTheSignedValue : evenReg 14 = true ∧ quadReg 12 = true := by decide

/-- The smallest and the largest two digits. -/
theorem witness_DecimalAdjustCorrectsBcd :
    let s := (start.setByteReg 0 0x99).setByteReg 1 0x00
    IsBcd (s.byteReg 0) ∧ IsBcd (s.byteReg 1) := by
  unfold IsBcd
  decide

theorem witness_LogicalOperationsActBitwise :
    (Source.mem (α := Word) (.ir 14)).pairs segStart.segmented = true ∧
    (Source.mem (α := Byte) (.ir 15)).pairs start.segmented = true := by
  decide

theorem witness_ComplementsAndTestsSetLogicFlags :
    (RegMem.mem (.ir 14)).pairs segStart.segmented = true ∧ (RegMem.reg 14).pairsL segStart.segmented = true := by
  decide

theorem witness_StaticBitInstructionsTouchOneBit :
    (RegMem.reg 15).pairs segStart.segmented = true ∧ (RegMem.mem (.ir 14)).pairs segStart.segmented = true := by
  decide

/-- A long register, and counts at the ends of each clause of `ShiftResult`: 0, the width, minus the width. -/
theorem witness_ShiftsMoveBySignedCount :
    evenReg 14 = true ∧ (lowByte (0 : Word)).toInt = 0 ∧ (lowByte (0x0010 : Word)).toInt = 16 ∧
    (lowByte (0x00F0 : Word)).toInt = -16 ∧ (lowByte (0x0101 : Word)).toInt = 1 ∧
    (lowByte (0x00FF : Word)).toInt = -1 := by
  decide

/-- A link byte and a source byte that are two registers. -/
theorem witness_DigitRotatesMoveThreeDigits : (1 : Reg) ≠ 0 := by decide

theorem witness_JumpsFollowConditionOrCounter :
    (MemOp.ir 14).pairs segStart.segmented = true ∧ (MemOp.x 15 (.nonseg 0)).pairs start.segmented = true := by
  decide

/-- Both modes, and a condition that holds and one that does not. -/
theorem witness_CallsPushAndReturnsPop :
    (MemOp.ir 14).pairs segStart.segmented = true ∧ segStart.segmented = true ∧
    (MemOp.ir 15).pairs start.segmented = true ∧ start.segmented = false ∧
    cc 8 start.fcw = true ∧ cc 6 start.fcw = false := by
  decide

theorem witness_ReturnUndoesCall :
    ((MemOp.da (.long 5 0x1234)).wf segStart.segmented = true ∧
      (MemOp.da (.long 5 0x1234)).pairs segStart.segmented = true) ∧
    ((MemOp.ir 15).wf start.segmented = true ∧ (MemOp.ir 15).pairs start.segmented = true) ∧
    (∀ g ∈ (start.setGuards [⟨.write .stack, 0, 0⟩]).guards, g.access ≠ .read .stack) := by
  decide

theorem witness_BlockLoadsMoveOneElement :
    (ptrReg segStart.segmented 2 = true ∧ ptrReg segStart.segmented 14 = true) ∧
    (ptrReg start.segmented 1 = true ∧ ptrReg start.segmented 15 = true) := by
  decide

theorem witness_BlockComparesTestTheCondition :
    ptrReg segStart.segmented 2 = true ∧ ptrReg segStart.segmented 14 = true ∧ ptrReg start.segmented 15 = true := by
  decide

theorem witness_TranslatesUseTheTable :
    ptrReg segStart.segmented 2 = true ∧ ptrReg segStart.segmented 14 = true ∧ ptrReg start.segmented 15 = true := by
  decide

theorem witness_PortTransfersMakeOneTransaction : start.system = true ∧ segStart.system = true := by decide

theorem witness_BlockInputsStoreOneElement : segStart.system = true ∧ ptrReg segStart.segmented 14 = true := by decide

theorem witness_BlockOutputsSendOneElement : segStart.system = true ∧ ptrReg segStart.segmented 14 = true := by decide

theorem witness_ControlRegistersReadAndWrite : start.system = true ∧ segStart.system = true := by decide

theorem witness_EnablesHaltAndMultiMicro : start.system = true := by decide

/-- Both layouts. -/
theorem witness_ProgramStatusLoadsAndReturns :
    (segStart.system = true ∧ (MemOp.ir 14).pairs segStart.segmented = true ∧ segStart.segmented = true) ∧
    (start.system = true ∧ (MemOp.ir 15).pairs start.segmented = true ∧ start.segmented = false) := by
  decide

theorem witness_EveryInstructionCompletes :
    (Instr.ldlR 14 0).Runs segStart ∧ Instr.Runs .halt start ∧ (Instr.nop).Runs userStart ∧
    Instr.branches .halt = false := by
  unfold Instr.Runs
  decide

/-- An instruction on each side of the equivalence, and the privileged one that traps first. -/
theorem witness_OnlyBadRegisterFieldsFault :
    ((Instr.ldlR 1 0).pairsLegal start.segmented = false ∧ (Instr.ldlR 1 0).privileged = false) ∧
    ((Instr.inib 1 2 3).pairsLegal segStart.segmented = false ∧ (Instr.inib 1 2 3).privileged = true ∧
      segStart.system = true) ∧
    (Instr.ldlR 0 2).pairsLegal start.segmented = true := by
  decide

theorem witness_PrivilegedInstructionsTrapInNormalMode :
    (Instr.ldctlWrite 1 2).privileged = true ∧ userStart.system = false := by
  decide

theorem witness_NormalModeIsConfined : userStart.system = false ∧ ∃ t, exec (.ldctlWrite 1 2) userStart = .next t :=
  ⟨by decide, exists_next (by decide)⟩

theorem witness_DecodingUndoesEncoding :
    (Instr.ldImm (.x 15 (.long 127 0xFFFF)) 0xBEEF).wf true = true ∧ (Instr.push 15 (.imm 1)).wf false = true := by
  decide

theorem witness_StepRunsTheDecodedInstruction :
    let u := (start.placeWords 0x100 [0x2101, 0x1234]).service
    u.halt = false ∧ u.pc.getLsbD 0 = false ∧
    decodeBytes u.segmented u.codeBytes = .ok (.ldIM 1 0x1234, [0, 0, 0, 0]) := by
  refine ⟨by decide, by decide, ?_⟩
  rfl

/-- Nothing pending, and TRAP pending with every cause before it not. -/
theorem witness_ServiceTakesTheHighestPriority :
    (∀ c, start.isPending c = false) ∧
    ((start.raise .trap).isPending .trap = true ∧
      ∀ c ∈ [Cause.reset, .epu], (start.raise .trap).isPending c = false) := by
  refine ⟨fun c => by cases c <;> decide, by decide, by decide⟩

/-- With an adaptor that traps writes of the tag's bytes in the stack role, the entry of VI requests SEGTRAP, and that of
SEGTRAP does not leave it requested; with one for the data role VI does not request it (R624, R608). -/
theorem witness_ExceptionEntryBuildsTheFrame :
    let s := fun (r : Role) => ({ start with guards := [⟨.write r, 0xFFFA, 0⟩] } : State)
    Cause.vi ≠ .reset ∧ Cause.vi ≠ .segtrap ∧ Cause.segtrap ≠ .reset ∧
    ((s .stack).enter .vi).irqReq.segtrap = true ∧ ((s .data).enter .vi).irqReq.segtrap = false ∧
    ((s .stack).enter .segtrap).irqReq.segtrap = false := by
  decide

theorem witness_ProgramStatusAreaLayout :
    start.cfg.variant = .z8002 ∧ segStart.cfg.variant = .z8001 := by
  decide

theorem witness_ReturnUndoesEntry :
    handlerStart.Inv ∧ Cause.trap ≠ .reset ∧ (∀ g ∈ handlerStart.guards, g.access ≠ .read .stack) ∧
    (handlerStart.enter .trap).system = true ∧
    (handlerStart.cfg.variant = .z8001 → (handlerStart.enter .trap).segmented = true) :=
  ⟨⟨by decide, by decide, by decide, by decide, by decide⟩, by decide, by decide, by decide, by decide⟩

theorem witness_ResetAndItsService : State.reset.irqReq.reset = true := by decide

theorem witness_HaltedMachineWaits :
    let s := { start with halt := true }
    (s.halt = true ∧ ∀ c, s.isPending c = false) ∧ (0 : Int) ≤ 0 := by
  refine ⟨⟨by decide, fun c => ?_⟩, by decide⟩
  cases c <;> decide

/-- A read with a placeholder, one of another byte, and one of the byte in another role. -/
theorem witness_MemoryIsBigEndian :
    let s := guardedStart (.read .data) [0x2000]
    (∃ g ∈ s.guards, g.access = .read .data ∧ g.addr = s.physical 0x2000 ∧
      ∀ h ∈ s.guards, h.access = .read .data → h.addr = s.physical 0x2000 → h.value = g.value) ∧
    (∀ g ∈ s.guards, g.access = .read .data → g.addr ≠ s.physical 0x2001) ∧
    (∀ g ∈ s.guards, g.access = .read .stack → g.addr ≠ s.physical 0x2000) := by
  decide

theorem witness_RegisterViewsNeverDrift : quadReg 12 = true ∧ evenReg 14 = true ∧
    (0 : Reg) ∉ [(12 : Reg), 12 + 1, 12 + 2, 12 + 3] ∧ (8 : Reg) ≠ 7 := by
  decide

theorem witness_EffectiveAddressesOfEachMode : segStart.segmented = true ∧ start.cfg.variant = .z8002 ∧
    ({ segStart with fcw := 0x4000 } : State).cfg.variant = .z8001 ∧
    ({ segStart with fcw := 0x4000 } : State).segmented = false := by
  decide

theorem witness_StepKeepsTheInvariant : start.Inv ∧ ∃ t, step start = .next t :=
  ⟨⟨by decide, by decide, by decide, by decide, by decide⟩, exists_next (by decide)⟩

theorem witness_ReachableStatesHaveTheInvariant : Reachable {} State.reset := .start

end Sys2Proof.Tests
end

namespace Sys2Proof.Machine

open Sys2Proof

/-! ### Which instructions fault (00_scope.md)

Every arm of `exec` makes the same two checks before its effect: first the mode, if it is privileged (R530), then its
register fields (R137, R138). What can stop the model is read off that common form. -/

section

variable {s : State} {b : Bool} {f g : Fault} {o : Out} {r : Refusal}

/-- Two checks of register fields are one; the first that fails names the fault. -/
theorem need_need (a : Bool) : need a f (need b g o) = need (b && a) (if a then g else f) o := by
  cases a <;> cases b <;> rfl

theorem need_next_fault_iff (t : State) : (∃ g, need b f (.next t) = .fault g) ↔ b = false := by
  cases b <;> simp [need]

theorem need_refused : need b f o = .refused r ↔ b = true ∧ o = .refused r := by
  cases b <;> simp [need]

theorem priv_fault : priv s o = .fault g ↔ s.system = true ∧ o = .fault g := by
  cases h : s.system <;> simp [priv, h]

theorem priv_refused : priv s o = .refused r ↔ s.system = true ∧ o = .refused r := by
  cases h : s.system <;> simp [priv, h]

end

/-- The checks an instruction makes before its effect, the mode before the register fields (R530, R137; log 16). -/
def checked (i : Instr) (s : State) (f : Fault) (o : Out) : Out :=
  if i.privileged then priv s (need (i.pairsLegal s.segmented) f o) else need (i.pairsLegal s.segmented) f o

/-- Every arm of `exec` is a next state behind those checks. All but four arms check nothing, or one condition for
`oddPair`, written as `pairsLegal` has it. -/
theorem exec_eq_checked (i : Instr) (s : State) : ∃ f t, exec i s = checked i s f (.next t) := by
  cases i
  case multl d src => exact ⟨_, _, need_need (quadReg d)⟩
  case divl d src => exact ⟨_, _, need_need (quadReg d)⟩
  case extsl d => exact ⟨.badQuad, _, rfl⟩
  case ldlR d n => exact ⟨.oddPair, _, congrArg (need · _ _) (Bool.and_comm _ _)⟩
  all_goals exact ⟨.oddPair, _, rfl⟩

theorem checked_next_fault_iff (i : Instr) (s : State) (f : Fault) (t : State) :
    (∃ g, checked i s f (.next t) = .fault g) ↔
      i.pairsLegal s.segmented = false ∧ (i.privileged = true → s.system = true) := by
  unfold checked
  split
  next h =>
    simp only [priv_fault, exists_and_left, need_next_fault_iff, h, forall_const]
    exact and_comm
  next h => simp [need_next_fault_iff, h]

theorem checked_next_ne_refused (i : Instr) (s : State) (f : Fault) (t : State) (r : Refusal) :
    checked i s f (.next t) ≠ .refused r := by
  unfold checked
  split <;> simp [priv_refused, need_refused]

/-- Settles O42: the form of every arm of `exec` fixes when it faults, and that it is never refused. -/
theorem onlyBadRegisterFieldsFault : Obligations.OnlyBadRegisterFieldsFault := by
  intro i s
  obtain ⟨f, t, h⟩ := exec_eq_checked i s
  rw [h]
  exact ⟨checked_next_ne_refused i s f t, checked_next_fault_iff i s f t⟩

end Sys2Proof.Machine

namespace Sys2Proof.Machine

open Sys2Proof

/-! ### What every update keeps legal (10_state.md R39, R40, R43; 20_memory.md R90)

The invariant between steps has two parts: no operand slot is valid, which only the end of an instruction brings about,
and `State.Legal`, which holds all through a step because every named update keeps it. -/

section

variable {s t u : State}

/-- What `State.Inv` says apart from the operand slots. -/
structure State.Legal (s : State) : Prop where
  mem : s.mem.wf (memorySize s.cfg.variant) = true
  pc  : pcValue s.cfg.variant s.pc = s.pc
  ppc : pcValue s.cfg.variant s.ppc = s.ppc
  fcw : s.fcw &&& fcwMask s.cfg.variant = s.fcw

theorem State.inv_iff : s.Inv ↔ s.Legal ∧ s.opValid = 0 :=
  ⟨fun ⟨hm, hp, hpp, hf, hv⟩ => ⟨⟨hm, hp, hpp, hf⟩, hv⟩, fun ⟨⟨hm, hp, hpp, hf⟩, hv⟩ => ⟨hm, hp, hpp, hf, hv⟩⟩

/-- From `s` to `t` the parameters stay, and what was legal is. -/
structure KeepsLegal (s t : State) : Prop where
  cfg   : t.cfg = s.cfg
  legal : s.Legal → t.Legal

theorem KeepsLegal.trans (h : KeepsLegal s t) (h' : KeepsLegal t u) : KeepsLegal s u :=
  ⟨h'.cfg.trans h.cfg, fun hs => h'.legal (h.legal hs)⟩

/-- An update that writes none of the fields the invariant speaks of. -/
theorem KeepsLegal.of_same (h : (t.cfg, t.mem, t.pc, t.ppc, t.fcw) = (s.cfg, s.mem, s.pc, s.ppc, s.fcw)) :
    KeepsLegal s t := by
  simp only [Prod.mk.injEq] at h
  obtain ⟨hc, hm, hp, hpp, hf⟩ := h
  exact ⟨hc, fun ⟨lm, lp, lpp, lf⟩ =>
    ⟨by rw [hc, hm]; exact lm, by rw [hc, hp]; exact lp, by rw [hc, hpp]; exact lpp, by rw [hc, hf]; exact lf⟩⟩

theorem KeepsLegal.refl (s : State) : KeepsLegal s s := .of_same rfl

/-! #### `pc` -/

theorem pcValue_pcValue (v : Variant) (a : Addr) : pcValue v (pcValue v a) = pcValue v a := by
  cases v with
  | z8001 => exact wordAlign_wordAlign a
  | z8002 =>
    apply BitVec.eq_of_toNat_eq
    simp only [pcValue, append_7_16_toNat, BitVec.extractLsb'_toNat, wordAlign_toNat]
    simp
    omega

/-- A legal `pc` is even. -/
theorem even_of_pcValue {v : Variant} {a : Addr} (h : pcValue v a = a) : a.toNat % 2 = 0 := by
  have h' := congrArg BitVec.toNat h
  cases v with
  | z8001 =>
    simp only [pcValue, wordAlign_toNat] at h'
    omega
  | z8002 =>
    simp only [pcValue, append_7_16_toNat, BitVec.extractLsb'_toNat, wordAlign_toNat] at h'
    simp at h'
    omega

/-- An even address is its own aligned form. -/
theorem wordAlign_of_even {a : Addr} (h : a.toNat % 2 = 0) : wordAlign a = a :=
  BitVec.eq_of_toNat_eq (by rw [wordAlign_toNat]; omega)

/-- The word after a legal `pc` is at an address that `pc` can hold (R41). -/
theorem pcValue_addrAdd_two (s : State) {a : Addr} (h : pcValue s.cfg.variant a = a) :
    pcValue s.cfg.variant (s.addrAdd a 2) = s.addrAdd a 2 := by
  have hev := even_of_pcValue h
  have hal : wordAlign (s.addrAdd a 2) = s.addrAdd a 2 := by
    have := s.wordAlign_addrAdd_wordAlign a
    rwa [wordAlign_of_even hev] at this
  unfold pcValue
  cases hv : s.cfg.variant with
  | z8001 => exact hal
  | z8002 => simp only [hal]; simp [State.addrAdd, hv]

theorem KeepsLegal.setPc (s : State) (a : Addr) : KeepsLegal s (s.setPc a) :=
  ⟨by simp, fun ⟨hm, _, hpp, hf⟩ => ⟨by simpa using hm, by simp [pcValue_pcValue], by simpa using hpp,
    by simpa using hf⟩⟩

theorem KeepsLegal.fetch (s : State) : KeepsLegal s s.fetch :=
  ⟨by simp, fun ⟨hm, hp, hpp, hf⟩ => ⟨by simpa using hm, by simpa using pcValue_addrAdd_two s hp, by simpa using hpp,
    by simpa using hf⟩⟩

theorem KeepsLegal.fetchExt (s : State) (k : Nat) : KeepsLegal s (s.fetchExt k) := by
  induction k generalizing s with
  | zero => exact .refl s
  | succ k ih => exact (KeepsLegal.fetch s).trans (ih s.fetch)

/-! #### Memory -/

theorem KeepsLegal.poke (s : State) (a : Addr) (v : Byte) : KeepsLegal s (s.poke a v) :=
  ⟨by simp, fun ⟨hm, hp, hpp, hf⟩ => ⟨Memory.wf_write (s.physical_lt a) hm, by simpa using hp, by simpa using hpp,
    by simpa using hf⟩⟩

theorem KeepsLegal.access (s : State) (k : Access) (ns : List Nat) : KeepsLegal s (s.access k ns) := .of_same rfl

theorem KeepsLegal.writeByte (s : State) (r : Role) (a : Addr) (v : Byte) : KeepsLegal s (s.writeByte r a v) :=
  (KeepsLegal.access s _ _).trans (.poke _ a v)

/-! #### FCW -/

/-- FCW is legal when it has no bit that the mask lacks (R46). -/
theorem and_fcwMask_iff (v : Variant) (f : Word) :
    f &&& fcwMask v = f ↔ ∀ j, f.getLsbD j = true → (fcwMask v).getLsbD j = true := by
  constructor
  · intro h j hj
    have := congrArg (BitVec.getLsbD · j) h
    simpa [hj] using this
  · intro h
    apply BitVec.eq_of_getLsbD_eq
    intro j _
    cases hj : f.getLsbD j with
    | false => simp [hj]
    | true => simp [hj, h j hj]

/-- The mask has the bits `flagsAll` on both variants. -/
theorem fcwMask_of_flagsAll (v : Variant) (j : Nat) (h : flagsAll.getLsbD j = true) :
    (fcwMask v).getLsbD j = true := by
  have hj : j < 16 := by
    by_contra hge
    simp [BitVec.getLsbD_of_ge _ _ (Nat.le_of_not_lt hge)] at h
  revert h
  revert j
  cases v <;> decide

/-- A word that differs from a legal FCW in flags only is legal. -/
theorem and_fcwMask_of_flags {v : Variant} {f g : Word} (h : g &&& ~~~flagsAll = f &&& ~~~flagsAll)
    (hf : f &&& fcwMask v = f) : g &&& fcwMask v = g := by
  rw [and_fcwMask_iff] at hf ⊢
  intro j hj
  cases hfl : flagsAll.getLsbD j with
  | true => exact fcwMask_of_flagsAll v j hfl
  | false =>
    have hlt : j < 16 := BitVec.lt_of_getLsbD hj
    have hfj := congrArg (BitVec.getLsbD · j) h
    simp only [BitVec.getLsbD_and, BitVec.getLsbD_not, hj, hfl, hlt] at hfj
    exact hf j (by simpa using hfj.symm)

/-- An update of flags changes no other bit of FCW. -/
theorem FlagUpdate.apply_keeps_flagsAll (u : FlagUpdate) (f : Word) :
    u.apply f &&& ~~~flagsAll = f &&& ~~~flagsAll := by
  have inside : ∀ c z s pv da h : Bool, ((if c then (0x80 : Word) else 0) ||| (if z then 0x40 else 0) |||
      (if s then 0x20 else 0) ||| (if pv then 0x10 else 0) ||| (if da then 0x08 else 0) |||
      (if h then 0x04 else 0)) &&& ~~~flagsAll = 0 := by decide
  exact FlagUpdate.apply_keeps u f (inside _ _ _ _ _ _)

/-- FCW written with a legal value. -/
theorem KeepsLegal.setFcw (s : State) {f : Word}
    (h : s.fcw &&& fcwMask s.cfg.variant = s.fcw → f &&& fcwMask s.cfg.variant = f) :
    KeepsLegal s { s with fcw := f } :=
  ⟨rfl, fun ⟨hm, hp, hpp, hf⟩ => ⟨hm, hp, hpp, h hf⟩⟩

theorem KeepsLegal.setFlags (s : State) (u : FlagUpdate) : KeepsLegal s (s.setFlags u) :=
  .setFcw s (and_fcwMask_of_flags (u.apply_keeps_flagsAll s.fcw))

/-- Masking is idempotent, so that a whole-FCW write leaves FCW legal whatever is written. -/
theorem KeepsLegal.changeFcw (s : State) (v : Word) : KeepsLegal s (s.changeFcw v) :=
  ⟨by simp, fun ⟨hm, hp, hpp, _⟩ => ⟨by simpa using hm, by simpa using hp, by simpa using hpp,
    by simp [BitVec.and_assoc]⟩⟩

/-! #### Registers, requests and the other fields -/

theorem KeepsLegal.setReg (s : State) (n : Reg) (v : Word) : KeepsLegal s (s.setReg n v) := .of_same rfl
theorem KeepsLegal.raise (s : State) (c : Cause) : KeepsLegal s (s.raise c) := .of_same rfl
theorem KeepsLegal.charge (s : State) (k : Nat) : KeepsLegal s (s.charge k) := .of_same rfl
theorem KeepsLegal.drawn (s : State) : KeepsLegal s s.drawn := .of_same rfl
theorem KeepsLegal.ioEvent (s : State) (e : IoEvent) : KeepsLegal s (s.ioEvent e) := .of_same rfl
theorem KeepsLegal.endInstruction (s : State) : KeepsLegal s s.endInstruction := .of_same rfl
theorem KeepsLegal.stepPointer (s : State) (n : Reg) (k : Word) : KeepsLegal s (s.stepPointer n k) := .setReg s _ _

end


/-! ### Confinement (10_state.md R48)

What an instruction that is not privileged may change, in either mode. -/

section

variable {s t u : State}

/-- From `s` to `t` nothing changes that R48 keeps from normal mode: the high byte of FCW and every field of `State.rest`
but the requests and the draw counter, and of the requests RESET and NMI; SEGTRAP may only be made, and only by a bus
adaptor (R608). A legal state stays legal. -/
structure Confined (s t : State) : Prop where
  high    : t.fcw &&& 0xFF00 = s.fcw &&& 0xFF00
  rest    : t.rest = { s.rest with irqReq := t.irqReq, draws := t.draws }
  reset   : t.irqReq.reset = s.irqReq.reset
  nmi     : t.irqReq.nmi = s.irqReq.nmi
  segtrap : s.irqReq.segtrap = true → t.irqReq.segtrap = true
  bare    : s.guards = [] → t.irqReq.segtrap = s.irqReq.segtrap
  legal   : s.Legal → t.Legal

theorem Confined.refl (s : State) : Confined s s := ⟨rfl, rfl, rfl, rfl, id, fun _ => rfl, id⟩

theorem Confined.guards (h : Confined s t) : t.guards = s.guards := congrArg Rest.guards h.rest

theorem Confined.keepsLegal (h : Confined s t) : KeepsLegal s t := ⟨congrArg Rest.cfg h.rest, h.legal⟩

theorem Confined.trans (h : Confined s t) (h' : Confined t u) : Confined s u where
  high := h'.high.trans h.high
  rest := h'.rest.trans (by rw [h.rest])
  reset := h'.reset.trans h.reset
  nmi := h'.nmi.trans h.nmi
  segtrap hs := h'.segtrap (h.segtrap hs)
  bare hb := (h'.bare (h.guards.trans hb)).trans (h.bare hb)
  legal hs := h'.legal (h.legal hs)

/-- An update of registers, memory, operand slots, `pc` and flags, with the accesses it makes. -/
theorem Confined.of_restIs (h : RestIs s t s.rest) (hl : KeepsLegal s t)
    (hf : t.fcw &&& 0xFF00 = s.fcw &&& 0xFF00 := by simp) : Confined s t where
  high := hf
  rest := by
    have hd : t.draws = s.draws := congrArg Rest.draws h.1
    have hq : t.irqReq = { s.irqReq with segtrap := t.irqReq.segtrap } := congrArg Rest.irqReq h.1
    rw [hd, hq]
    exact h.1
  reset := congrArg (·.irqReq.reset) h.1
  nmi := congrArg (·.irqReq.nmi) h.1
  segtrap := h.2.1
  bare hb := congrArg (·.irqReq.segtrap) (h.2.2 hb)
  legal := hl.legal

theorem Confined.ite {c : Prop} [Decidable c] (h : Confined s t) (h' : Confined s u) :
    Confined s (if c then t else u) := by
  split
  · exact h
  · exact h'

theorem RestIs.refl (s : State) : RestIs s s s.rest := ⟨rfl, id, fun _ => rfl⟩

/-! #### The named updates -/

theorem Confined.access (s : State) (k : Access) (ns : List Nat) : Confined s (s.access k ns) :=
  .of_restIs ((RestIs.refl s).access rfl k ns) (.access s k ns)

theorem Confined.fetchExt (s : State) (k : Nat) : Confined s (s.fetchExt k) :=
  .of_restIs (.fetchExt s k) (.fetchExt s k)

theorem Confined.setReg (s : State) (n : Reg) (v : Word) : Confined s (s.setReg n v) :=
  .of_restIs ((RestIs.refl s).keep rfl) (.setReg s n v)

theorem Confined.setByteReg (s : State) (k : Reg) (v : Byte) : Confined s (s.setByteReg k v) := .setReg s _ _

theorem Confined.setLongReg (s : State) (n : Reg) (v : Long) : Confined s (s.setLongReg n v) :=
  (Confined.setReg s n _).trans (.setReg _ (n + 1) _)

theorem Confined.setQuadReg (s : State) (n : Reg) (v : Quad) : Confined s (s.setQuadReg n v) :=
  (Confined.setLongReg s n _).trans (.setLongReg _ (n + 2) _)

theorem Confined.stepPointer (s : State) (n : Reg) (k : Word) : Confined s (s.stepPointer n k) := .setReg s _ _

/-- FCW written with a value that has the same high byte. -/
theorem Confined.setFcw (s : State) {f : Word} (hf : f &&& 0xFF00 = s.fcw &&& 0xFF00)
    (hl : s.fcw &&& fcwMask s.cfg.variant = s.fcw → f &&& fcwMask s.cfg.variant = f) :
    Confined s { s with fcw := f } :=
  .of_restIs ((RestIs.refl s).keep rfl) (.setFcw s hl) hf

/-- Writing flags only. -/
theorem Confined.setFcw_flags (s : State) {f : Word} (h : f &&& ~~~flagsAll = s.fcw &&& ~~~flagsAll) :
    Confined s { s with fcw := f } := by
  have inside : (0xFF00 : Word) = ~~~flagsAll &&& 0xFF00 := by decide
  refine .setFcw s ?_ (and_fcwMask_of_flags h)
  rw [inside, ← BitVec.and_assoc, h, BitVec.and_assoc]

theorem Confined.setFlags (s : State) (u : FlagUpdate) : Confined s (s.setFlags u) :=
  .setFcw_flags s (u.apply_keeps_flagsAll s.fcw)

theorem Confined.setPc (s : State) (a : Addr) : Confined s (s.setPc a) :=
  .of_restIs ((RestIs.refl s).keep rfl) (.setPc s a)

theorem Confined.writeByte (s : State) (r : Role) (a : Addr) (v : Byte) : Confined s (s.writeByte r a v) :=
  .of_restIs (((RestIs.refl s).access rfl _ _).keep rfl) (.writeByte s r a v)

theorem Confined.writeWord (s : State) (r : Role) (a : Addr) (v : Word) : Confined s (s.writeWord r a v) :=
  (Confined.writeByte s r _ _).trans (.writeByte _ r _ _)

theorem Confined.writeLong (s : State) (r : Role) (a : Addr) (v : Long) : Confined s (s.writeLong r a v) :=
  (Confined.writeWord s r _ _).trans (.writeWord _ r _ _)

theorem Confined.drawn (s : State) : Confined s s.drawn :=
  ⟨rfl, rfl, rfl, rfl, id, fun _ => rfl, (KeepsLegal.drawn s).legal⟩

/-- R15, R530, R640: the requests that an instruction of normal mode makes. -/
theorem Confined.raise (s : State) {c : Cause} (h : c = .trap ∨ c = .epu ∨ c = .syscall) :
    Confined s (s.raise c) := by
  rcases h with rfl | rfl | rfl <;> exact ⟨rfl, rfl, rfl, rfl, id, fun _ => rfl, (KeepsLegal.raise s _).legal⟩

theorem Confined.raise_trap (s : State) : Confined s (s.raise .trap) := .raise s (.inl rfl)
theorem Confined.raise_epu (s : State) : Confined s (s.raise .epu) := .raise s (.inr (.inl rfl))
theorem Confined.raise_syscall (s : State) : Confined s (s.raise .syscall) := .raise s (.inr (.inr rfl))

/-! #### Pushes, pops, calls and repetition -/

theorem Confined.pushWord (s : State) (p : Reg) (v : Word) : Confined s (s.pushWord p v) :=
  (Confined.stepPointer s p _).trans (.writeWord _ _ _ _)

theorem Confined.pushLong (s : State) (p : Reg) (v : Long) : Confined s (s.pushLong p v) :=
  (Confined.stepPointer s p _).trans (.writeLong _ _ _ _)

theorem Confined.dropWord (s : State) (p : Reg) : Confined s (s.dropWord p) :=
  (Confined.access s _ _).trans (.stepPointer _ p _)

theorem Confined.dropLong (s : State) (p : Reg) : Confined s (s.dropLong p) :=
  (Confined.access s _ _).trans (.stepPointer _ p _)

theorem Confined.pushPc (s : State) (a : Addr) : Confined s (s.pushPc a) := by
  unfold State.pushPc
  split
  · exact .pushLong s _ _
  · exact .pushWord s _ _

theorem Confined.popPc (s : State) : Confined s s.popPc.2 := by
  unfold State.popPc
  split
  · exact .dropLong s _
  · exact .dropWord s _

theorem Confined.callTo (s : State) (a : Addr) : Confined s (s.callTo a) := (Confined.pushPc s s.pc).trans (.setPc _ a)

theorem Confined.countDown (s : State) (r : Reg) : Confined s (s.countDown r) :=
  (Confined.setReg s r _).trans (.setFlags _ _)

theorem Confined.againIf (s : State) (b : Bool) : Confined s (s.againIf b) := by
  cases b with
  | false => exact .refl s
  | true => exact .setPc s _

theorem Confined.divisionTrap (s : State) (bad : Bool) : Confined s (s.divisionTrap bad) := by
  unfold State.divisionTrap
  split
  · exact .raise_trap s
  · exact .refl s

end

/-! ### Operands and the shapes of effects -/

section

/-- A width whose updates are confined. -/
structure Width.Confines {n : Nat} (w : Width n) : Prop where
  setReg : ∀ (s : State) (r : Reg) (v : BitVec n), Confined s (w.setReg s r v)
  touch  : ∀ (s : State) (a : Addr), Confined s (w.touch s a)
  store  : ∀ (s : State) (a : Addr) (v : BitVec n), Confined s (w.store s a v)

theorem byteW_confines : byteW.Confines := ⟨.setByteReg, fun s _ => .access s _ _, fun s => .writeByte s .data⟩
theorem wordW_confines : wordW.Confines := ⟨.setReg, fun s _ => .access s _ _, fun s => .writeWord s .data⟩
theorem longW_confines : longW.Confines := ⟨.setLongReg, fun s _ => .access s _ _, fun s => .writeLong s .data⟩

variable {n : Nat} {w : Width n}

theorem Place.touch_confined (hw : w.Confines) (s : State) (p : Place) : Confined s (p.touch w s) :=
  match p with
  | .reg _ => .refl s
  | .addr a => hw.touch s a

theorem Place.put_confined (hw : w.Confines) (s : State) (v : BitVec n) (p : Place) : Confined s (p.put w s v) :=
  match p with
  | .reg r => hw.setReg s r v
  | .addr a => hw.store s a v

theorem Source.touch_confined (hw : w.Confines) (s : State) (src : Source (BitVec n)) : Confined s (src.touch w s) :=
  match src with
  | .reg _ => .refl s
  | .imm _ => .refl s
  | .mem m => hw.touch s (m.ea s)

theorem loadFrom_confined (hw : w.Confines) (d : Reg) (a : Addr) (s : State) : Confined s (loadFrom w d a s) :=
  (hw.touch s a).trans (hw.setReg _ d _)

theorem binary_confined (hw : w.Confines) (d : Reg) (src : Source (BitVec n))
    (op : BitVec n → BitVec n → BitVec n × FlagUpdate) (s : State) : Confined s (binary w d src op s) :=
  ((Source.touch_confined hw s src).trans (hw.setReg _ d _)).trans (.setFlags _ _)

theorem compareWith_confined (hw : w.Confines) (d : Reg) (src : Source (BitVec n))
    (op : BitVec n → BitVec n → FlagUpdate) (s : State) : Confined s (compareWith w d src op s) :=
  (Source.touch_confined hw s src).trans (.setFlags _ _)

theorem modify_confined (hw : w.Confines) (dst : RegMem) (op : BitVec n → BitVec n × FlagUpdate) (s : State) :
    Confined s (modify w dst op s) :=
  ((Place.touch_confined hw s _).trans (Place.put_confined hw _ _ _)).trans (.setFlags _ _)

theorem inspect_confined (hw : w.Confines) (dst : RegMem) (op : BitVec n → FlagUpdate) (s : State) :
    Confined s (inspect w dst op s) :=
  (Place.touch_confined hw s _).trans (.setFlags _ _)

theorem inspectReg_confined (d : Reg) (op : BitVec n → FlagUpdate) (s : State) : Confined s (inspectReg w d op s) :=
  .setFlags s _

theorem modifyReg_confined (hw : w.Confines) (d : Reg) (op : BitVec n → BitVec n × FlagUpdate) (s : State) :
    Confined s (modifyReg w d op s) :=
  (hw.setReg s d _).trans (.setFlags _ _)

theorem modifyRegDraw_confined (hw : w.Confines) (d : Reg) (op : Draw → BitVec n → BitVec n × FlagUpdate)
    (s : State) : Confined s (modifyRegDraw w d op s) :=
  (modifyReg_confined hw d _ s).trans (.drawn _)

theorem shiftReg_confined (hw : w.Confines) (arith : Bool) (d : Reg) (c : Word) (s : State) :
    Confined s (shiftReg w arith d c s) :=
  modifyRegDraw_confined hw d _ s

theorem exchange_confined (hw : w.Confines) (d : Reg) (src : RegMem) (s : State) : Confined s (exchange w d src s) :=
  ((Place.touch_confined hw s _).trans (Place.put_confined hw _ _ _)).trans (hw.setReg _ d _)

theorem moveBlock_confined (hw : w.Confines) (k : Word) (d s r : Reg) (t : State) :
    Confined t (moveBlock w k d s r t) :=
  ((((hw.touch t _).trans (hw.store _ _ _)).trans (.stepPointer _ d k)).trans (.stepPointer _ s k)).trans
    (.countDown _ r)

theorem compareBlock_confined (hw : w.Confines) (k : Word) (d s r : Reg) (c : CondCode) (t : State) :
    Confined t (compareBlock w k d s r c t) :=
  ((((hw.touch t _).trans (.stepPointer _ s k)).trans (.countDown _ r)).trans (.setFlags _ _)).trans (.drawn _)

theorem compareStrings_confined (hw : w.Confines) (k : Word) (d s r : Reg) (c : CondCode) (t : State) :
    Confined t (compareStrings w k d s r c t) :=
  ((((((hw.touch t _).trans (hw.touch _ _)).trans (.stepPointer _ d k)).trans (.stepPointer _ s k)).trans
    (.countDown _ r)).trans (.setFlags _ _)).trans (.drawn _)

theorem touchEntry_confined (s : State) (a : Addr) (p : Reg) : Confined s (s.touchEntry a p) :=
  (Confined.access s _ _).trans (.access _ _ _)

theorem translate_confined (k : Word) (d s r : Reg) (t : State) : Confined t (translate k d s r t) :=
  (((((touchEntry_confined t _ s).trans (.writeByte _ _ _ _)).trans (.stepPointer _ d k)).trans
    (.countDown _ r)).trans (.setFlags _ _)).trans (.drawn _)

theorem translateTest_confined (k : Word) (s p r : Reg) (t : State) : Confined t (translateTest k s p r t) :=
  ((((touchEntry_confined t _ p).trans (.setReg _ 1 _)).trans (.setFlags _ _)).trans (.stepPointer _ s k)).trans
    (.countDown _ r)

theorem digitRotate_confined (l s : Reg) (f : Byte → Byte → Byte × Byte) (t : State) :
    Confined t (digitRotate l s f t) :=
  (((Confined.setByteReg t s _).trans (.setByteReg _ l _)).trans (.setFlags _ _)).trans (.drawn _)

theorem loadByteReg_confined (s : State) (d : Reg) (b : Byte) : Confined s (s.loadByteReg d b) :=
  (Confined.setByteReg s d b).trans (.setFlags _ _)

theorem loadByte_confined (s : State) (d : Reg) (a : Addr) : Confined s (s.loadByte d a) :=
  (Confined.access s _ _).trans (loadByteReg_confined _ d _)

theorem loadAddress_confined (s : State) (d : Reg) (a : Addr) : Confined s (s.loadAddress d a) := by
  unfold State.loadAddress
  split
  · exact .setLongReg s d _
  · exact .setReg s d _

theorem loadMultiple_confined (s : State) (a : Addr) (d : Reg) (k : Nat) : Confined s (s.loadMultiple a d k) := by
  induction k generalizing s a d with
  | zero => exact .refl s
  | succ k ih => exact (loadFrom_confined wordW_confines d a s).trans (ih _ _ _)

theorem storeMultiple_confined (s : State) (a : Addr) (r : Reg) (k : Nat) : Confined s (s.storeMultiple a r k) := by
  induction k generalizing s a r with
  | zero => exact .refl s
  | succ k ih => exact (Confined.writeWord s .data a _).trans (ih _ _ _)

theorem getLsbD_of_disjoint {m k : Word} (h : m &&& k = 0) {j : Nat} (hk : k.getLsbD j = true) :
    m.getLsbD j = false := by
  have hbit : (m.getLsbD j && k.getLsbD j) = false := by
    rw [← BitVec.getLsbD_and, h]
    exact BitVec.getLsbD_zero
  simpa [hk] using hbit

theorem and_congr_of_bits {f g k : Word} (h : ∀ j < 16, k.getLsbD j = true → f.getLsbD j = g.getLsbD j) :
    f &&& k = g &&& k := by
  apply BitVec.eq_of_getLsbD_eq
  intro j hj
  rw [BitVec.getLsbD_and, BitVec.getLsbD_and]
  cases hk : k.getLsbD j with
  | false => rw [Bool.and_false, Bool.and_false]
  | true => rw [h j hj hk]

/-- Setting, clearing or inverting the bits of a mask changes no bit that the mask has not. -/
theorem or_and_of_disjoint {m k : Word} (h : m &&& k = 0) (f : Word) : (f ||| m) &&& k = f &&& k :=
  and_congr_of_bits fun j _ hk => by rw [BitVec.getLsbD_or, getLsbD_of_disjoint h hk, Bool.or_false]

theorem andNot_and_of_disjoint {m k : Word} (h : m &&& k = 0) (f : Word) : (f &&& ~~~m) &&& k = f &&& k :=
  and_congr_of_bits fun j hj hk => by
    rw [BitVec.getLsbD_and, BitVec.getLsbD_not, getLsbD_of_disjoint h hk, decide_eq_true hj]
    simp

theorem xor_and_of_disjoint {m k : Word} (h : m &&& k = 0) (f : Word) : (f ^^^ m) &&& k = f &&& k :=
  and_congr_of_bits fun j _ hk => by rw [BitVec.getLsbD_xor, getLsbD_of_disjoint h hk, Bool.xor_false]

/-- The bits a flag mask names are flags (R161). -/
theorem flagMask_and (f : BitVec 4) : flagMask f &&& ~~~flagsAll = 0 := by
  revert f
  decide

/-- The bits of FCW after its low byte is written with bits 1 and 0 clear (R506). -/
theorem getLsbD_lowByteWritten (f : Word) (b : BitVec 6) {j : Nat} (hj : j < 16) :
    (f.extractLsb' 8 8 ++ (b ++ 0#2) : Word).getLsbD j =
      if j < 2 then false else if j < 8 then b.getLsbD (j - 2) else f.getLsbD j := by
  refine (BitVec.getLsbD_append (x := f.extractLsb' 8 8) (y := b ++ 0#2)).trans ?_
  rw [BitVec.getLsbD_append, BitVec.getLsbD_extractLsb']
  by_cases h2 : j < 2
  · simp [h2, show j < 8 by omega]
  · by_cases h8 : j < 8
    · simp [h2, h8]
    · simp [h2, h8, show 8 + (j - 8) = j by omega, show j - 8 < 8 by omega]

/-- LDCTLB writes the low byte of FCW and no reserved bit. -/
theorem ldctlb_confined (s : State) (b : BitVec 6) :
    Confined s { s with fcw := s.fcw.extractLsb' 8 8 ++ (b ++ 0#2) } := by
  refine .setFcw s ?_ fun hl => ?_
  · have high : ∀ j < 16, (0xFF00 : Word).getLsbD j = true → 8 ≤ j := by decide
    refine and_congr_of_bits fun j hj hk => ?_
    have h8 := high j hj hk
    rw [getLsbD_lowByteWritten _ _ hj, if_neg (by omega), if_neg (by omega)]
  · rw [and_fcwMask_iff] at hl ⊢
    intro j hj
    rw [getLsbD_lowByteWritten _ _ (BitVec.lt_of_getLsbD hj)] at hj
    by_cases h2 : j < 2
    · simp [h2] at hj
    · by_cases h8 : j < 8
      · have flags : ∀ j, j < 8 → ¬ j < 2 → flagsAll.getLsbD j = true := by decide
        exact fcwMask_of_flagsAll _ j (flags j h8 h2)
      · exact hl j (by simpa [h2, h8] using hj)

end


/-! ### What every instruction keeps -/

section

variable {s : State} {P : State → Prop} {o : Out}

/-- Every next state that `o` answers has `P`. -/
def Yields (P : State → Prop) (o : Out) : Prop := ∀ t, o = .next t → P t

theorem Yields.need {b : Bool} {f : Fault} (h : Yields P o) : Yields P (need b f o) :=
  fun t ht => h t (need_next.1 ht).2

theorem Yields.priv (h : s.system = true → Yields P o) (ht : P (s.raise .trap)) : Yields P (priv s o) := by
  intro t hn
  rcases (priv_next s).1 hn with ⟨hs, ho⟩ | ⟨_, rfl⟩
  · exact h hs t ho
  · exact ht

/-- What follows the fetch of an instruction's words is confined from the state after it. -/
theorem Yields.effect {k : Nat} {t : State} (h : Confined (s.fetchExt k) t) : Yields (Confined s) (.next t) := by
  rintro _ ⟨⟩
  exact (Confined.fetchExt s k).trans h

theorem Yields.legalEffect {k : Nat} {t : State} (h : KeepsLegal (s.fetchExt k) t) :
    Yields (KeepsLegal s) (.next t) := by
  rintro _ ⟨⟩
  exact (KeepsLegal.fetchExt s k).trans h

end

/-- An instruction that is not privileged is confined, in either mode. -/
theorem exec_confined (i : Instr) (s : State) (hp : i.privileged = false) : Yields (Confined s) (exec i s) := by
  cases i with
  | add d src | sub d src | and d src | or d src | xor d src =>
    exact .need (.effect (binary_confined wordW_confines d src _ _))
  | addb d src | subb d src | andb d src | orb d src | xorb d src =>
    exact .need (.effect (binary_confined byteW_confines d src _ _))
  | addl d src | subl d src => exact .need (.effect (binary_confined longW_confines d src _ _))
  | adc d r | sbc d r => exact .effect (binary_confined wordW_confines d (.reg r) _ _)
  | adcb d r | sbcb d r => exact .effect (binary_confined byteW_confines d (.reg r) _ _)
  | cp d src => exact .need (.effect (compareWith_confined wordW_confines d src _ _))
  | cpb d src => exact .need (.effect (compareWith_confined byteW_confines d src _ _))
  | cpl d src => exact .need (.effect (compareWith_confined longW_confines d src _ _))
  | cpImm dst _ => exact .need (.effect (inspect_confined wordW_confines (.mem dst) _ _))
  | cpbImm dst _ => exact .need (.effect (inspect_confined byteW_confines (.mem dst) _ _))
  | test dst | bit dst _ => exact .need (.effect (inspect_confined wordW_confines dst _ _))
  | testb dst | bitb dst _ => exact .need (.effect (inspect_confined byteW_confines dst _ _))
  | testl dst => exact .need (.effect (inspect_confined longW_confines dst _ _))
  | neg dst | com dst | tset dst | inc dst _ | dec dst _ | set dst _ | res dst _ =>
    exact .need (.effect (modify_confined wordW_confines dst _ _))
  | negb dst | comb dst | tsetb dst | incb dst _ | decb dst _ | setb dst _ | resb dst _ =>
    exact .need (.effect (modify_confined byteW_confines dst _ _))
  | mult d src =>
    exact .need (.effect
      (((Source.touch_confined wordW_confines _ src).trans (.setLongReg _ d _)).trans (.setFlags _ _)))
  | multl d src =>
    exact .need (.need (.effect
      (((Source.touch_confined longW_confines _ src).trans (.setQuadReg _ d _)).trans (.setFlags _ _))))
  | div d src =>
    exact .need (.effect (((((Source.touch_confined wordW_confines _ src).trans (.setLongReg _ d _)).trans
      (.setFlags _ _)).trans (.drawn _)).trans (.divisionTrap _ _)))
  | divl d src =>
    exact .need (.need (.effect (((((Source.touch_confined longW_confines _ src).trans (.setQuadReg _ d _)).trans
      (.setFlags _ _)).trans (.drawn _)).trans (.divisionTrap _ _))))
  | extsb d => exact .effect (.setReg _ d _)
  | exts d => exact .need (.effect (.setReg _ d _))
  | extsl d => exact .need (.effect (.setLongReg _ d _))
  | dab d => exact .effect ((Confined.setByteReg _ d _).trans (.setFlags _ _))
  | bitDyn d _ | bitbDyn d _ => exact .effect (inspectReg_confined d _ _)
  | setDyn d _ | resDyn d _ => exact .effect (modifyReg_confined wordW_confines d _ _)
  | setbDyn d _ | resbDyn d _ => exact .effect (modifyReg_confined byteW_confines d _ _)
  | tcc _ d => exact .effect (.setReg _ d _)
  | tccb _ d => exact .effect (.setByteReg _ d _)
  | rl d _ | rlc d _ | rr d _ | rrc d _ => exact .effect (modifyRegDraw_confined wordW_confines d _ _)
  | rlb d _ | rlcb d _ | rrb d _ | rrcb d _ => exact .effect (modifyRegDraw_confined byteW_confines d _ _)
  | sla d _ | sll d _ | sda d _ | sdl d _ => exact .effect (shiftReg_confined wordW_confines _ d _ _)
  | slab d _ | sllb d _ | sdab d _ | sdlb d _ => exact .effect (shiftReg_confined byteW_confines _ d _ _)
  | slal d _ | slll d _ | sdal d _ | sdll d _ =>
    exact .need (.effect (shiftReg_confined longW_confines _ d _ _))
  | rldb l r | rrdb l r => exact .effect (digitRotate_confined l r _ _)
  | ldi d p r | ldd d p r =>
    exact .need (.effect (moveBlock_confined wordW_confines _ d p r _))
  | ldib d p r | lddb d p r =>
    exact .need (.effect (moveBlock_confined byteW_confines _ d p r _))
  | ldir d p r | lddr d p r =>
    exact .need (.effect ((moveBlock_confined wordW_confines _ d p r _).trans (.againIf _ _)))
  | ldirb d p r | lddrb d p r =>
    exact .need (.effect ((moveBlock_confined byteW_confines _ d p r _).trans (.againIf _ _)))
  | cpi d p r c | cpd d p r c =>
    exact .need (.effect (compareBlock_confined wordW_confines _ d p r c _))
  | cpib d p r c | cpdb d p r c =>
    exact .need (.effect (compareBlock_confined byteW_confines _ d p r c _))
  | cpir d p r c | cpdr d p r c =>
    exact .need (.effect ((compareBlock_confined wordW_confines _ d p r c _).trans (.againIf _ _)))
  | cpirb d p r c | cpdrb d p r c =>
    exact .need (.effect ((compareBlock_confined byteW_confines _ d p r c _).trans (.againIf _ _)))
  | cpsi d p r c | cpsd d p r c =>
    exact .need (.effect (compareStrings_confined wordW_confines _ d p r c _))
  | cpsib d p r c | cpsdb d p r c =>
    exact .need (.effect (compareStrings_confined byteW_confines _ d p r c _))
  | cpsir d p r c | cpsdr d p r c =>
    exact .need (.effect ((compareStrings_confined wordW_confines _ d p r c _).trans (.againIf _ _)))
  | cpsirb d p r c | cpsdrb d p r c =>
    exact .need (.effect ((compareStrings_confined byteW_confines _ d p r c _).trans (.againIf _ _)))
  | trib d p r | trdb d p r => exact .need (.effect (translate_confined _ d p r _))
  | trirb d p r | trdrb d p r =>
    exact .need (.effect ((translate_confined _ d p r _).trans (.againIf _ _)))
  | trtib p q r | trtdb p q r => exact .need (.effect (translateTest_confined _ p q r _))
  | trtirb p q r | trtdrb p q r =>
    exact .need (.effect ((translateTest_confined _ p q r _).trans (.againIf _ _)))
  | jp c dst => exact .need (.effect (.ite (.setPc _ _) (.refl _)))
  | jr c _ => exact .effect (.ite (.setPc _ _) (.refl _))
  | djnz d _ => exact .effect ((Confined.setReg _ d _).trans (.ite (.refl _) (.setPc _ _)))
  | dbjnz d _ => exact .effect ((Confined.setByteReg _ d _).trans (.ite (.refl _) (.setPc _ _)))
  | call dst => exact .need (.effect (.callTo _ _))
  | calr _ => exact .effect (.callTo _ _)
  | ret c => exact .effect (.ite ((Confined.popPc _).trans (.setPc _ _)) (.refl _))
  | sc _ => exact .effect (.raise_syscall _)
  | ldR d _ | ldIM d _ | ldk d _ => exact .effect (.setReg _ d _)
  | ldMem d src => exact .need (.effect (loadFrom_confined wordW_confines d _ _))
  | ldTo dst _ | ldImm dst _ => exact .need (.effect (.writeWord _ .data _ _))
  | ldbR d _ | ldbIM d _ | ldbShort d _ => exact .effect (loadByteReg_confined _ d _)
  | ldbMem d src => exact .need (.effect (loadByte_confined _ d _))
  | ldbTo dst _ | ldbImm dst _ => exact .need (.effect (.writeByte _ .data _ _))
  | ldlR d _ | ldlIM d _ => exact .need (.effect (.setLongReg _ d _))
  | ldlMem d src => exact .need (.effect (loadFrom_confined longW_confines d _ _))
  | ldlTo dst _ => exact .need (.effect (.writeLong _ .data _ _))
  | ldrLoad d _ => exact .effect (loadFrom_confined wordW_confines d _ _)
  | ldrStore _ _ => exact .effect (.writeWord _ .data _ _)
  | ldrbLoad d _ => exact .effect (loadByte_confined _ d _)
  | ldrbStore _ _ => exact .effect (.writeByte _ .data _ _)
  | ldrlLoad d _ => exact .need (.effect (loadFrom_confined longW_confines d _ _))
  | ldrlStore _ _ => exact .need (.effect (.writeLong _ .data _ _))
  | lda d _ | ldar d _ => exact .need (.effect (loadAddress_confined _ d _))
  | ldm d _ _ => exact .need (.effect (loadMultiple_confined _ _ d _))
  | ldmTo _ r _ => exact .need (.effect (storeMultiple_confined _ _ r _))
  | ex d src => exact .need (.effect (exchange_confined wordW_confines d src _))
  | exb d src => exact .need (.effect (exchange_confined byteW_confines d src _))
  | push d src =>
    exact .need (.effect ((Source.touch_confined wordW_confines _ src).trans (.pushWord _ d _)))
  | pushl d src => exact .need (.effect ((Place.touch_confined longW_confines _ _).trans (.pushLong _ d _)))
  | pop _ p => exact .need (.effect ((Confined.dropWord _ p).trans (Place.put_confined wordW_confines _ _ _)))
  | popl _ p =>
    exact .need (.effect ((Confined.dropLong _ p).trans (Place.put_confined longW_confines _ _ _)))
  | clr _ => exact .need (.effect (Place.put_confined wordW_confines _ _ _))
  | clrb _ => exact .need (.effect (Place.put_confined byteW_confines _ _ _))
  | ldctlbRead d => exact .effect (.setByteReg _ d _)
  | ldctlbWrite r => exact .effect (ldctlb_confined _ _)
  | setflg m => exact .effect (.setFcw_flags _ (or_and_of_disjoint (flagMask_and m) _))
  | resflg m => exact .effect (.setFcw_flags _ (andNot_and_of_disjoint (flagMask_and m) _))
  | comflg m => exact .effect (.setFcw_flags _ (xor_and_of_disjoint (flagMask_and m) _))
  | nop => exact .effect (.refl _)
  | ext0E _ | ext0F _ | ext4E _ | ext4F _ | ext8E _ | ext8F _ => exact .effect (.raise_epu _)
  | undefined _ => exact .effect (.raise_trap _)
  | _ => exact Bool.noConfusion hp

/-- A privileged instruction in normal mode latches TRAP and does nothing else (R530). -/
theorem exec_of_privileged_of_normal {i : Instr} {s : State} (hp : i.privileged = true) (hs : s.system = false) :
    exec i s = .next (s.raise .trap) := by
  obtain ⟨f, t, h⟩ := exec_eq_checked i s
  rw [h, checked, if_pos hp, priv_not s _ hs]

/-- Settles O44: an instruction that is not privileged is confined in any mode, and a privileged one only latches
TRAP. -/
theorem normalModeIsConfined : Obligations.NormalModeIsConfined := by
  intro i s t hs ht
  have hc : Confined s t := by
    cases hp : i.privileged with
    | false => exact exec_confined i s hp t ht
    | true =>
      rw [exec_of_privileged_of_normal hp hs] at ht
      cases ht
      exact .raise_trap s
  refine ⟨hc.high, hc.rest, ?_, hc.segtrap, hc.bare⟩
  show t.irqReq = ⟨s.irqReq.reset, _, _, _, _, s.irqReq.nmi⟩
  rw [← hc.reset, ← hc.nmi]


/-! ### Privileged instructions keep what is legal -/

section

variable {n : Nat} {w : Width n}

theorem inputTo_keepsLegal (io : IoWidth n) (hw : w.Confines) (mode : IoMode) (d : Reg) (port : Word) (t : State) :
    KeepsLegal t (inputTo io w mode d port t) :=
  (KeepsLegal.ioEvent t _).trans (hw.setReg _ d _).keepsLegal

theorem outputFrom_keepsLegal (io : IoWidth n) (mode : IoMode) (port : Word) (s : Reg) (t : State) :
    KeepsLegal t (outputFrom io w mode port s t) :=
  .ioEvent t _

theorem countIo_keepsLegal (r : Reg) (z : Bool) (t : State) : KeepsLegal t (countIo r z t) :=
  (((Confined.countDown t r).trans (.setFlags _ _)).trans (.drawn _)).keepsLegal

theorem inputBlock_keepsLegal (io : IoWidth n) (hw : w.Confines) (mode : IoMode) (k : Word) (d s r : Reg) (t : State) :
    KeepsLegal t (inputBlock io w mode k d s r t) :=
  (((KeepsLegal.ioEvent t _).trans (hw.store _ _ _).keepsLegal).trans (.stepPointer _ d k)).trans
    (countIo_keepsLegal r _ _)

theorem outputBlock_keepsLegal (io : IoWidth n) (hw : w.Confines) (mode : IoMode) (k : Word) (d s r : Reg)
    (t : State) : KeepsLegal t (outputBlock io w mode k d s r t) :=
  (((hw.touch t _).keepsLegal.trans (.ioEvent _ _)).trans (.stepPointer _ s k)).trans (countIo_keepsLegal r _ _)

theorem repeatWhileCount_keepsLegal (r : Reg) {s t : State} (h : KeepsLegal s t) :
    KeepsLegal s (repeatWhileCount r t) :=
  h.trans (Confined.againIf t _).keepsLegal

end

theorem reservedControl_keepsLegal (s : State) : KeepsLegal s s.reservedControl := by
  unfold State.reservedControl
  split
  · exact .refl s
  · exact .raise s .trap

theorem ldctlRead_keepsLegal (s : State) (d : Reg) (k : BitVec 3) :
    KeepsLegal s (match s.control k with
      | some v => s.setReg d v
      | none => s.reservedControl) := by
  split
  · exact .setReg s d _
  · exact reservedControl_keepsLegal s

theorem setControl_keepsLegal {s t : State} {k : BitVec 3} {v : Word} (h : s.setControl k v = some t) :
    KeepsLegal s t := by
  unfold State.setControl at h
  split at h <;> cases h
  · exact .changeFcw s v
  all_goals exact .of_same rfl

theorem ldctlWrite_keepsLegal (s : State) (k : BitVec 3) (v : Word) :
    KeepsLegal s ((s.setControl k v).getD s.reservedControl) := by
  cases h : s.setControl k v with
  | none => exact reservedControl_keepsLegal s
  | some t => exact setControl_keepsLegal h

/-- The interrupt enables are bits of FCW on both variants (R43, R49). -/
theorem setEnables_keepsLegal (s : State) (a b : BitVec 1) (on : Bool) : KeepsLegal s (s.setEnables a b on) := by
  refine .setFcw s fun hl => ?_
  rw [and_fcwMask_iff] at hl ⊢
  intro j hj
  have enables : ∀ v, (fcwMask v).getLsbD 12 = true ∧ (fcwMask v).getLsbD 11 = true := by
    intro v
    cases v <;> decide
  obtain ⟨vi, nvi⟩ := enables s.cfg.variant
  by_cases h12 : j = 12
  · exact h12 ▸ vi
  · by_cases h11 : j = 11
    · exact h11 ▸ nvi
    · rw [putFlag_getLsbD _ _ _ _ (by decide), if_neg h12, putFlag_getLsbD _ _ _ _ (by decide), if_neg h11] at hj
      exact hl j hj

theorem mreq_keepsLegal (s : State) (d : Reg) (v : Word) (u : FlagUpdate) (b : Bool) :
    KeepsLegal s { ((s.setReg d v).setFlags u).drawn with mi := b } :=
  (((KeepsLegal.setReg s d v).trans (.setFlags _ u)).trans (.drawn _)).trans (.of_same rfl)

theorem touchStatus_keepsLegal (s : State) (a : Addr) : KeepsLegal s (s.touchStatus a) := by
  unfold State.touchStatus
  split
  · exact ((KeepsLegal.access s _ _).trans (.access _ _ _)).trans (.access _ _ _)
  · exact (KeepsLegal.access s _ _).trans (.access _ _ _)

theorem returnFromException_keepsLegal (s : State) : KeepsLegal s s.returnFromException := by
  have two : KeepsLegal s ((s.dropWord s.spReg).dropWord s.spReg) :=
    ((Confined.dropWord s _).trans (.dropWord _ _)).keepsLegal
  unfold State.returnFromException
  split
  · exact ((two.trans (Confined.dropLong _ _).keepsLegal).trans (.changeFcw _ _)).trans (.setPc _ _)
  · exact ((two.trans (Confined.dropWord _ _).keepsLegal).trans (.changeFcw _ _)).trans (.setPc _ _)

/-- Every instruction keeps the parameters and what is legal. -/
theorem exec_keepsLegal (i : Instr) (s : State) : Yields (KeepsLegal s) (exec i s) := by
  cases hp : i.privileged with
  | false => exact fun t ht => (exec_confined i s hp t ht).keepsLegal
  | true =>
    have trap : KeepsLegal s (s.raise .trap) := .raise s .trap
    cases i with
    | inw d _ | sin d _ => exact .priv (fun _ => .legalEffect (inputTo_keepsLegal _ wordW_confines _ d _ _)) trap
    | inb d _ | sinb d _ => exact .priv (fun _ => .legalEffect (inputTo_keepsLegal _ byteW_confines _ d _ _)) trap
    | outw _ r | outb _ r | sout _ r | soutb _ r =>
      exact .priv (fun _ => .legalEffect (outputFrom_keepsLegal _ _ _ r _)) trap
    | ini d p r | ind d p r | sini d p r | sind d p r =>
      exact .priv (fun _ => .need (.legalEffect (inputBlock_keepsLegal _ wordW_confines _ _ d p r _))) trap
    | inib d p r | indb d p r | sinib d p r | sindb d p r =>
      exact .priv (fun _ => .need (.legalEffect (inputBlock_keepsLegal _ byteW_confines _ _ d p r _))) trap
    | inir d p r | indr d p r | sinir d p r | sindr d p r =>
      exact .priv (fun _ => .need (.legalEffect
        (repeatWhileCount_keepsLegal r (inputBlock_keepsLegal _ wordW_confines _ _ d p r _)))) trap
    | inirb d p r | indrb d p r | sinirb d p r | sindrb d p r =>
      exact .priv (fun _ => .need (.legalEffect
        (repeatWhileCount_keepsLegal r (inputBlock_keepsLegal _ byteW_confines _ _ d p r _)))) trap
    | outi d p r | outd d p r | souti d p r | soutd d p r =>
      exact .priv (fun _ => .need (.legalEffect (outputBlock_keepsLegal _ wordW_confines _ _ d p r _))) trap
    | outib d p r | outdb d p r | soutib d p r | soutdb d p r =>
      exact .priv (fun _ => .need (.legalEffect (outputBlock_keepsLegal _ byteW_confines _ _ d p r _))) trap
    | otir d p r | otdr d p r | sotir d p r | sotdr d p r =>
      exact .priv (fun _ => .need (.legalEffect
        (repeatWhileCount_keepsLegal r (outputBlock_keepsLegal _ wordW_confines _ _ d p r _)))) trap
    | otirb d p r | otdrb d p r | sotirb d p r | sotdrb d p r =>
      exact .priv (fun _ => .need (.legalEffect
        (repeatWhileCount_keepsLegal r (outputBlock_keepsLegal _ byteW_confines _ _ d p r _)))) trap
    | ldctlRead d k => exact .priv (fun _ => .legalEffect (ldctlRead_keepsLegal _ d k)) trap
    | ldctlWrite _ k => exact .priv (fun _ => .legalEffect (ldctlWrite_keepsLegal _ k _)) trap
    | ldps _ =>
      exact .priv (fun _ => .need (.legalEffect
        (((touchStatus_keepsLegal _ _).trans (.changeFcw _ _)).trans (.setPc _ _)))) trap
    | di a b | ei a b => exact .priv (fun _ => .legalEffect (setEnables_keepsLegal _ a b _)) trap
    | halt | mset | mres => exact .priv (fun _ => .legalEffect (k := 0) (.of_same rfl)) trap
    | mbit => exact .priv (fun _ => .legalEffect (.setFlags _ _)) trap
    | mreq d =>
      exact .priv (fun _ => .legalEffect (mreq_keepsLegal _ d _ _ _)) trap
    | iret => exact .priv (fun _ => .legalEffect (returnFromException_keepsLegal _)) trap
    | _ => exact Bool.noConfusion hp

/-! ### Service, the step and the moves of the host -/

theorem touchVector_keepsLegal (s : State) (c : Cause) : KeepsLegal s (s.touchVector c) := by
  unfold State.touchVector
  split
  · exact ((KeepsLegal.access s _ _).trans (.access _ _ _)).trans (.access _ _ _)
  · exact (KeepsLegal.access s _ _).trans (.access _ _ _)

/-- The end of service: the request is cleared, and the halt (R624, R626). -/
theorem KeepsLegal.served (s : State) (q : Requests) : KeepsLegal s { s with irqReq := q, halt := false } :=
  .of_same rfl

/-- Taking an exception (R624): the frame pushed, the entry read and installed, the request cleared. -/
theorem enter_keepsLegal (s : State) (c : Cause) : KeepsLegal s (s.enter c) :=
  (((((((KeepsLegal.changeFcw s _).trans (Confined.pushPc _ _).keepsLegal).trans
    (Confined.pushWord _ _ _).keepsLegal).trans (Confined.pushWord _ _ _).keepsLegal).trans
    (touchVector_keepsLegal _ c)).trans (.changeFcw _ _)).trans (.setPc _ _)).trans (.served _ _)

@[simp] theorem State.resetService_cfg (s : State) : s.resetService.cfg = s.cfg := by
  unfold State.resetService
  cases s.cfg.variant <;> simp

@[simp] theorem State.resetService_mem (s : State) : s.resetService.mem = s.mem := by
  unfold State.resetService
  cases s.cfg.variant <;> simp

@[simp] theorem State.resetService_ppc (s : State) : s.resetService.ppc = s.ppc := by
  unfold State.resetService
  cases s.cfg.variant <;> simp

/-- The service of RESET sets `pc` as every jump does (R40), to the address in the reset vector. -/
theorem State.resetService_pc (s : State) : ∃ a, s.resetService.pc = pcValue s.cfg.variant a := by
  unfold State.resetService
  cases h : s.cfg.variant <;> exact ⟨_, congrArg (pcValue · _) (by simp [h])⟩

theorem resetService_keepsLegal (s : State) : KeepsLegal s s.resetService := by
  refine ⟨by simp, fun ⟨hm, _, hpp, _⟩ => ⟨by simpa using hm, ?_, by simpa using hpp, ?_⟩⟩
  · obtain ⟨a, ha⟩ := s.resetService_pc
    rw [ha, State.resetService_cfg, pcValue_pcValue]
  · rw [State.resetService_cfg]
    exact (BitVec.and_assoc ..).trans (by rw [BitVec.and_self]; rfl)

theorem service_keepsLegal (s : State) : KeepsLegal s s.service := by
  rcases s.service_cases with ⟨_, h⟩ | ⟨_, h⟩ | ⟨c, _, _, h⟩ <;> rw [h]
  · exact .refl s
  · exact (resetService_keepsLegal s).trans (.charge _ _)
  · exact (enter_keepsLegal s c).trans (.charge _ _)

@[simp] theorem State.pushPc_opValid (s : State) (a : Addr) : (s.pushPc a).opValid = s.opValid := by
  unfold State.pushPc
  split
  · simp [State.pushLong]
  · simp

@[simp] theorem State.touchVector_opValid (s : State) (c : Cause) : (s.touchVector c).opValid = s.opValid := by
  unfold State.touchVector
  split <;> simp [State.touchPsa]

@[simp] theorem State.enter_opValid (s : State) (c : Cause) : (s.enter c).opValid = s.opValid := by
  simp [State.enter]

@[simp] theorem State.resetService_opValid (s : State) : s.resetService.opValid = s.opValid := by
  unfold State.resetService
  cases s.cfg.variant <;> simp

/-- Service fills no operand slot. -/
theorem State.service_opValid (s : State) : s.service.opValid = s.opValid := by
  rcases s.service_cases with ⟨_, h⟩ | ⟨_, h⟩ | ⟨c, _, _, h⟩ <;> rw [h]
  · simp
  · simp

theorem begin_keepsLegal (s : State) (i : Instr) : KeepsLegal s (s.begin i) := by
  have latched : KeepsLegal s { s with ppc := s.pc, opValid := 0 } :=
    ⟨rfl, fun ⟨hm, hp, _, hf⟩ => ⟨hm, hp, hp, hf⟩⟩
  have counted : KeepsLegal s s.fetchOpcode := (latched.trans (.fetch _)).trans (.of_same rfl)
  exact counted.trans (.charge _ _)

theorem KeepsLegal.haltedStep (s : State) : KeepsLegal s s.haltedStep := .of_same rfl

/-- A step that goes on to a next state is a halted one, or has run the instruction at `pc` to its end (R710, R712). -/
theorem step_next {s t : State} (h : step s = .next t) :
    (s.service.halt = true ∧ t = s.service.haltedStep) ∨
    (s.service.halt = false ∧ ∃ u, exec s.service.decodeAt (s.service.begin s.service.decodeAt) = .next u ∧
      t = u.endInstruction) := by
  unfold step State.stepOnce at h
  split at h
  next hh => exact .inl ⟨hh, by cases h; rfl⟩
  next hh =>
    refine .inr ⟨by simpa using hh, ?_⟩
    unfold State.runInstruction at h
    cases ho : exec s.service.decodeAt (s.service.begin s.service.decodeAt) with
    | next u => exact ⟨u, rfl, by rw [ho] at h; cases h; rfl⟩
    | fault f => rw [ho] at h; cases h
    | refused r => rw [ho] at h; cases h

/-- An update that keeps what is legal and fills no slot keeps the invariant. -/
theorem KeepsLegal.inv {s t : State} (h : KeepsLegal s t) (hv : t.opValid = s.opValid ∨ t.opValid = 0) (hs : s.Inv) :
    t.Inv ∧ t.cfg = s.cfg := by
  obtain ⟨hl, h0⟩ := State.inv_iff.1 hs
  exact ⟨State.inv_iff.2 ⟨h.legal hl, hv.elim (fun e => e.trans h0) id⟩, h.cfg⟩

/-- Settles O58: service, the opcode fetch and the instruction each keep what is legal, and the end of the instruction
leaves no slot valid. -/
theorem stepKeepsTheInvariant : Obligations.StepKeepsTheInvariant := by
  intro s t hs ht
  have served := service_keepsLegal s
  rcases step_next ht with ⟨_, rfl⟩ | ⟨_, u, hu, rfl⟩
  · exact (served.trans (.haltedStep _)).inv (.inl s.service_opValid) hs
  · have ran := (served.trans (begin_keepsLegal _ _)).trans (exec_keepsLegal _ _ u hu)
    exact (ran.trans (.endInstruction u)).inv (.inr rfl) hs

/-- Settles O59: memory is empty, and 0 is a legal `pc` and FCW on both variants. -/
theorem resetHasTheInvariant : Obligations.ResetHasTheInvariant := by
  intro p
  have hpc : ∀ v, pcValue v 0 = 0 := by
    intro v
    cases v <;> decide
  exact ⟨rfl, hpc _, hpc _, BitVec.zero_and, rfl⟩

/-- What the host does between steps keeps the invariant. -/
theorem hostMove_keepsInv {s t : State} (h : HostMove s t) (hs : s.Inv) : t.Inv ∧ t.cfg = s.cfg := by
  cases h with
  | reset => exact KeepsLegal.inv (.of_same rfl) (.inr rfl) hs
  | nmi v =>
    unfold State.writeNmi
    dsimp only
    split
    · exact KeepsLegal.inv (.of_same rfl) (.inl rfl) hs
    · exact KeepsLegal.inv (.of_same rfl) (.inl rfl) hs
  | nvi v | vi v | irqVec v | adaptor g | budget k =>
    exact KeepsLegal.inv (.of_same rfl) (.inl rfl) hs
  | segtrap => exact (KeepsLegal.raise s .segtrap).inv (.inl rfl) hs
  | setReg n v => exact (KeepsLegal.setReg s n v).inv (.inl rfl) hs
  | setByteReg k v => exact (KeepsLegal.setReg s _ _).inv (.inl rfl) hs
  | setLongReg n v t h =>
    unfold State.hostSetLongReg at h
    split at h <;> cases h
    exact (Confined.setLongReg s n v).keepsLegal.inv (.inl rfl) hs
  | load a v => exact (KeepsLegal.poke s a v).inv (.inl rfl) hs

/-- Settles O60, by induction over the run: reset has the invariant, and steps and moves of the host keep it. -/
theorem reachableStatesHaveTheInvariant : Obligations.ReachableStatesHaveTheInvariant := by
  intro p s h
  induction h with
  | start => exact ⟨resetHasTheInvariant p, rfl⟩
  | step _ hst ih =>
    obtain ⟨hi, hc⟩ := stepKeepsTheInvariant _ _ ih.1 hst
    exact ⟨hi, hc.trans ih.2⟩
  | host _ hm ih =>
    obtain ⟨hi, hc⟩ := hostMove_keepsInv hm ih.1
    exact ⟨hi, hc.trans ih.2⟩


/-! ### Control registers and program status (47_system.md R500 to R503, R514) -/

section

variable {s t u : State} {v : Word} {r : Rest}

/-! #### Frames of the control registers -/

theorem RestIs.of_eq (h : t.rest = r) : RestIs s t r := h ▸ ⟨rfl, id, fun _ => rfl⟩

/-- Only a field of `State.rest` is written. -/
theorem Frame.of_rest (hr : t.regs = s.regs) (hm : t.mem = s.mem) (hf : t.fcw = s.fcw) (h : t.rest = r) :
    Frame s t [] [] 0 r :=
  ⟨fun n _ => by rw [State.reg, State.reg, hr], fun _ _ => by rw [hm], by rw [hf], .of_eq h⟩

/-- A whole-FCW write leaves no bit of FCW to a frame. -/
theorem StoreFrame.of_fcw (hm : t.mem = s.mem) (h : RestIs s t r) : StoreFrame s t [] 0xFFFF r := by
  have none : ~~~(0xFFFF : Word) = 0#16 := by decide
  refine ⟨fun _ _ => by rw [hm], ?_, h⟩
  rw [none, BitVec.and_zero, BitVec.and_zero]

/-- What a whole-FCW write does to the other fields (R57). -/
theorem RestIs.changeFcw (h : RestIs s u s.rest) (v : Word) :
    RestIs s (u.changeFcw v) (s.restSwitched (u.changeFcw v)) :=
  h.update (fun x => { x with nspSeg := (u.changeFcw v).nspSeg, nspOff := (u.changeFcw v).nspOff })
    (u.changeFcw_rest v) (fun _ _ => rfl) fun _ => rfl

/-- `Switched` speaks of the mode, the registers and the NSP shadow of the state before. -/
theorem Switched.congr (h : Switched u t v) (hc : u.cfg = s.cfg) (hf : u.fcw = s.fcw)
    (hr : ∀ n, u.reg n = s.reg n) (ho : u.nspOff = s.nspOff) (hg : u.nspSeg = s.nspSeg) : Switched s t v := by
  unfold Switched at h ⊢
  simp only [State.system, hc, hf, hr, ho, hg] at h ⊢
  exact h

/-! #### LDCTL -/

theorem exec_ldctlRead (hs : s.system = true) (d : Reg) {k : BitVec 3} (hk : s.control k = some v) :
    exec (.ldctlRead d k) s = .next (s.setReg d v) := by
  refine (priv_of s _ hs).trans ?_
  simp only [finish, State.fetchExt, hk]

theorem exec_ldctlRead_reserved (hs : s.system = true) (d : Reg) {k : BitVec 3} (hk : s.control k = none) :
    exec (.ldctlRead d k) s = .next s.reservedControl := by
  refine (priv_of s _ hs).trans ?_
  simp only [finish, State.fetchExt, hk]

theorem exec_ldctlWrite (hs : s.system = true) (r : Reg) (k : BitVec 3) :
    exec (.ldctlWrite r k) s = .next ((s.setControl k (s.reg r)).getD s.reservedControl) :=
  priv_of s _ hs

theorem reservedControl_frame (s : State) :
    Frame s s.reservedControl [] [] 0 (if s.cfg.ldctlReserved = .trap then s.restRaised .trap else s.rest) := by
  unfold State.reservedControl
  cases s.cfg.ldctlReserved with
  | nop => exact .fetchExt s 0 [] [] 0
  | trap => exact (Frame.fetchExt s 0 [] [] 0).raise .trap (by decide)

/-- A control register read into `d`. -/
theorem ldctlRead_reads (hs : s.system = true) (d : Reg) {k : BitVec 3} (hk : s.control k = some v) :
    ∃ t, exec (.ldctlRead d k) s = .next t ∧ t.reg d = v ∧ WordFrame s t (.reg d) 0 s.rest :=
  ⟨_, exec_ldctlRead hs d hk, s.reg_setReg_same d v,
    (Frame.fetchExt s 0 [d] [] 0).setReg d v (List.mem_singleton_self d)⟩

/-- Settles O37: a code reads and writes the one field it names, FCW by a whole-FCW write, and a reserved code none. -/
theorem controlRegistersReadAndWrite : Obligations.ControlRegistersReadAndWrite := by
  refine ⟨fun s d hs => ?_, fun s r hs => ?_⟩
  · have reserved : ∀ k, s.control k = none → ∃ t, exec (.ldctlRead d k) s = .next t ∧
        Frame s t [] [] 0 (if s.cfg.ldctlReserved = .trap then s.restRaised .trap else s.rest) :=
      fun k hk => ⟨_, exec_ldctlRead_reserved hs d hk, reservedControl_frame s⟩
    exact ⟨ldctlRead_reads hs d rfl, ldctlRead_reads hs d rfl, ldctlRead_reads hs d rfl, ldctlRead_reads hs d rfl,
      ldctlRead_reads hs d rfl, ldctlRead_reads hs d rfl, reserved 0 rfl, reserved 1 rfl⟩
  · refine ⟨⟨_, exec_ldctlWrite hs r 2, s.changeFcw_switched _, .of_fcw (s.changeFcw_mem _) ?_⟩,
      ⟨_, exec_ldctlWrite hs r 3, .of_rest rfl rfl rfl rfl⟩, ⟨_, exec_ldctlWrite hs r 4, .of_rest rfl rfl rfl rfl⟩,
      ⟨_, exec_ldctlWrite hs r 5, .of_rest rfl rfl rfl rfl⟩, ⟨_, exec_ldctlWrite hs r 6, .of_rest rfl rfl rfl rfl⟩,
      ⟨_, exec_ldctlWrite hs r 7, .of_rest rfl rfl rfl rfl⟩, ?_⟩
    · exact (RestIs.refl s).changeFcw _
    · rintro k (rfl | rfl)
      · exact ⟨_, exec_ldctlWrite hs r 0, reservedControl_frame s⟩
      · exact ⟨_, exec_ldctlWrite hs r 1, reservedControl_frame s⟩

/-! #### LDPS -/

/-- Reading a program status makes accesses only. -/
theorem State.touchStatus_eq (s : State) (a : Addr) : ∃ q, s.touchStatus a = { s with irqReq := q } := by
  unfold State.touchStatus
  split
  · exact ⟨_, rfl⟩
  · exact ⟨_, rfl⟩

theorem RestIs.touchStatus (h : RestIs s u s.rest) (a : Addr) : RestIs s (u.touchStatus a) s.rest := by
  unfold State.touchStatus
  split
  · exact ((h.access rfl _ _).access rfl _ _).access rfl _ _
  · exact (h.access rfl _ _).access rfl _ _

theorem State.programStatus_fetchExt (s : State) (k : Nat) (a : Addr) :
    (s.fetchExt k).programStatus a = s.programStatus a := by
  simp [State.programStatus]

/-- R503: LDPS in system mode installs the program status in memory at its operand. -/
theorem ldps_installs (s : State) (m : MemOp) (hs : s.system = true) (hm : m.pairs s.segmented = true) :
    ∃ t, exec (.ldps m) s = .next t ∧ StoreFrame s t [] 0xFFFF (s.restSwitched t) ∧
      Switched s t (s.programStatus (m.ea s)).1 ∧ t.pc = pcValue s.cfg.variant (s.programStatus (m.ea s)).2 := by
  have hx : exec (.ldps m) s = .next _ := (priv_of s _ hs).trans (need_of .oddPair _ hm)
  refine ⟨_, hx, ?_⟩
  simp only [State.programStatus_fetchExt, MemOp.ea_fetchExt]
  have rest := (RestIs.fetchExt s m.extWords).touchStatus (m.ea s)
  obtain ⟨q, hq⟩ := (s.fetchExt m.extWords).touchStatus_eq (m.ea s)
  rw [hq] at rest ⊢
  refine ⟨.of_fcw (by simp) ((rest.changeFcw _).keep rfl), ?_, by simp⟩
  exact Switched.congr (State.changeFcw_switched _ _) (by simp) (by simp) (fun n => s.fetchExt_reg _ n) (by simp)
    (by simp)

/-! #### IRET -/

/-- `s` with the pointer `p` moved up by `k` and the requests `q`: what pops from the stack at `p` leave. -/
def State.popped (s : State) (p : Reg) (k : Word) (q : Requests) : State := { s.stepPointer p k with irqReq := q }

theorem State.popped_dropWord (s : State) (p : Reg) (k : Word) (q : Requests) :
    (s.popped p k q).dropWord p = s.popped p (k + 2) ((s.popped p k q).dropWord p).irqReq := by
  conv_rhs => rw [State.popped, ← State.stepPointer_stepPointer]
  rfl

theorem State.popped_dropLong (s : State) (p : Reg) (k : Word) (q : Requests) :
    (s.popped p k q).dropLong p = s.popped p (k + 4) ((s.popped p k q).dropLong p).irqReq := by
  conv_rhs => rw [State.popped, ← State.stepPointer_stepPointer]
  rfl

/-- What is popped next is what memory holds at the pointer. -/
theorem State.popped_topWord (s : State) (p : Reg) (k : Word) (q : Requests) :
    (s.popped p k q).topWord p = s.readWord .stack ((s.stepPointer p k).pointer p) :=
  State.readWord_congr rfl rfl rfl _ _

theorem State.popped_topLong (s : State) (p : Reg) (k : Word) (q : Requests) :
    (s.popped p k q).topLong p = s.readLong .stack ((s.stepPointer p k).pointer p) :=
  State.readLong_congr rfl rfl rfl _ _

theorem RestIs.dropWord (h : RestIs s u s.rest) (p : Reg) : RestIs s (u.dropWord p) s.rest :=
  (h.access rfl _ _).keep rfl

theorem RestIs.dropLong (h : RestIs s u s.rest) (p : Reg) : RestIs s (u.dropLong p) s.rest :=
  (h.access rfl _ _).keep rfl

/-- FCW and PC installed once the frame is popped. -/
theorem popped_installs {p : Reg} {k : Word} {q : Requests} (h : RestIs s (s.popped p k q) s.rest) (f : Word)
    (a : Addr) :
    Switched (s.stepPointer p k) (((s.popped p k q).changeFcw f).setPc a) f ∧
      StoreFrame s (((s.popped p k q).changeFcw f).setPc a) [] 0xFFFF
        (s.restSwitched (((s.popped p k q).changeFcw f).setPc a)) ∧
      (((s.popped p k q).changeFcw f).setPc a).pc = pcValue s.cfg.variant a := by
  refine ⟨?_, .of_fcw ?_ ((h.changeFcw f).keep rfl), ?_⟩
  · exact ((s.popped p k q).changeFcw_switched f).congr rfl rfl (fun _ => rfl) rfl rfl
  · exact (s.popped p k q).changeFcw_mem f
  · rw [State.setPc_pc, State.changeFcw_cfg]
    rfl

/-- R514: the tag, FCW and PC are popped one after the other. -/
theorem State.returnFromException_eq (s : State) :
    ∃ q, RestIs s (s.popped s.spReg (if s.cfg.variant = .z8001 then 8 else 6) q) s.rest ∧
      s.returnFromException = ((s.popped s.spReg (if s.cfg.variant = .z8001 then 8 else 6) q).changeFcw
        (s.readWord .stack ((s.stepPointer s.spReg 2).pointer s.spReg))).setPc
          (if s.cfg.variant = .z8001 then
            segAddr ((s.readLong .stack ((s.stepPointer s.spReg 4).pointer s.spReg)).extractLsb' 16 16)
              ((s.readLong .stack ((s.stepPointer s.spReg 4).pointer s.spReg)).extractLsb' 0 16)
           else 0#7 ++ s.readWord .stack ((s.stepPointer s.spReg 4).pointer s.spReg)) := by
  obtain ⟨q, twice⟩ : ∃ q, (s.dropWord s.spReg).dropWord s.spReg = s.popped s.spReg 4 q :=
    ⟨_, s.popped_dropWord s.spReg 2 _⟩
  have fcw : (s.dropWord s.spReg).topWord s.spReg = s.readWord .stack ((s.stepPointer s.spReg 2).pointer s.spReg) :=
    s.popped_topWord s.spReg 2 _
  have rest := ((RestIs.refl s).dropWord s.spReg).dropWord s.spReg
  rw [twice] at rest
  have long := rest.dropLong s.spReg
  have word := rest.dropWord s.spReg
  unfold State.returnFromException
  simp only [twice, fcw, State.popped_topWord, State.popped_topLong]
  rw [State.popped_dropLong] at long ⊢
  rw [State.popped_dropWord] at word ⊢
  cases s.cfg.variant with
  | z8001 => exact ⟨_, long, rfl⟩
  | z8002 => exact ⟨_, word, rfl⟩

/-- Settles O40: LDPS installs the program status of its operand, IRET what it pops. -/
theorem programStatusLoadsAndReturns : Obligations.ProgramStatusLoadsAndReturns := by
  refine ⟨fun s m hs hm => ?_, fun s hs => ?_⟩
  · obtain ⟨t, ht, frame, switched, hpc⟩ := ldps_installs s m hs hm
    refine ⟨t, ht, frame, fun hseg => ?_, fun hseg => ?_⟩
    · rw [State.programStatus, if_pos hseg] at switched hpc
      exact ⟨switched, hpc⟩
    · rw [State.programStatus, if_neg (by rw [hseg]; exact Bool.false_ne_true)] at switched hpc
      exact ⟨switched, hpc⟩
  · obtain ⟨q, rest, heq⟩ := s.returnFromException_eq
    have hx : exec .iret s = .next s.returnFromException := priv_of s _ hs
    rw [heq] at hx
    obtain ⟨switched, frame, hpc⟩ := popped_installs rest
      (s.readWord .stack ((s.stepPointer s.spReg 2).pointer s.spReg)) _
    exact ⟨_, hx, switched, frame, hpc⟩

end


/-! ### The register views (10_state.md R30 to R36) -/

section

variable (s : State)

/-- The word register that a byte-register field names (R33), by number. -/
theorem byteLoc_pair_home (k : Reg) : (byteLoc .pair k).1 = BitVec.ofNat 4 (k.toNat / 2) := by revert k; decide

theorem byteLoc_zilog_home (k : Reg) : (byteLoc .zilog k).1 = BitVec.ofNat 4 (k.toNat % 8) := by revert k; decide

/-- Whether it names the high byte. -/
theorem byteLoc_pair_high (k : Reg) : (byteLoc .pair k).2 = decide (k.toNat % 2 = 0) := by revert k; decide

theorem byteLoc_zilog_high (k : Reg) : (byteLoc .zilog k).2 = decide (k.toNat < 8) := by revert k; decide

/-- The word register and the half that `BYTE_REG_MAP` names. -/
theorem byteLoc_eq (p : ByteRegMap) (k : Reg) :
    byteLoc p k = (if p = .pair then BitVec.ofNat 4 (k.toNat / 2) else BitVec.ofNat 4 (k.toNat % 8),
      decide (if p = .pair then k.toNat % 2 = 0 else k.toNat < 8)) := by
  cases p with
  | pair => exact Prod.ext (byteLoc_pair_home k) (byteLoc_pair_high k)
  | zilog => exact Prod.ext (byteLoc_zilog_home k) (byteLoc_zilog_high k)

theorem half_decide (w : Word) (c : Prop) [Decidable c] :
    half w (decide c) = if c then w.extractLsb' 8 8 else w.extractLsb' 0 8 := by
  simp [half]

theorem putHalf_decide (w : Word) (c : Prop) [Decidable c] (v : Byte) :
    putHalf w (decide c) v = if c then v ++ w.extractLsb' 0 8 else w.extractLsb' 8 8 ++ v := by
  simp [putHalf]

/-- Under either map a byte register is the named half of the named word register, and a write of it keeps the other half
and every other register (R33, R34). -/
theorem byteRegAt_is_half (p : ByteRegMap) (k : Reg) (v : Byte) :
    let n : Reg := if p = .pair then BitVec.ofNat 4 (k.toNat / 2) else BitVec.ofNat 4 (k.toNat % 8)
    let high := if p = .pair then k.toNat % 2 = 0 else k.toNat < 8
    s.byteRegAt p k = (if high then (s.reg n).extractLsb' 8 8 else (s.reg n).extractLsb' 0 8) ∧
    (s.setByteRegAt p k v).reg n =
      (if high then v ++ (s.reg n).extractLsb' 0 8 else (s.reg n).extractLsb' 8 8 ++ v) ∧
    ∀ m, m ≠ n → (s.setByteRegAt p k v).reg m = s.reg m := by
  intro n high
  have loc : byteLoc p k = (n, decide high) := byteLoc_eq p k
  unfold State.byteRegAt State.setByteRegAt
  rw [loc]
  exact ⟨half_decide _ _, (s.reg_setReg_same n _).trans (putHalf_decide _ _ _), fun m hm => s.reg_setReg_other hm _⟩

/-- The two halves of a long register are its two word registers (R35). -/
theorem setLongReg_views (n : Reg) (v : Long) :
    (s.setLongReg n v).reg n = v.extractLsb' 16 16 ∧ (s.setLongReg n v).reg (n + 1) = v.extractLsb' 0 16 ∧
    (s.setLongReg n v).longReg n = v ∧ ∀ m, m ≠ n → m ≠ n + 1 → (s.setLongReg n v).reg m = s.reg m := by
  refine ⟨?_, ?_, s.longReg_setLongReg n v, fun m hn hn' =>
    s.reg_setLongReg_other (fun h => (List.mem_pair.1 h).elim hn hn') v⟩
  · rw [State.reg_setLongReg, if_neg (reg_ne_succ n), if_pos rfl]
  · rw [State.reg_setLongReg, if_pos rfl]

theorem reg_add_two_add_one (n : Reg) : n + 2 + 1 = n + 3 := by revert n; decide

/-- The two halves of a quad register are its two long registers (R36). -/
theorem setQuadReg_views (n : Reg) (v : Quad) :
    (s.setQuadReg n v).quadReg n = v ∧ (s.setQuadReg n v).longReg n = v.extractLsb' 32 32 ∧
    (s.setQuadReg n v).longReg (n + 2) = v.extractLsb' 0 32 ∧
    ∀ m, m ∉ [n, n + 1, n + 2, n + 3] → (s.setQuadReg n v).reg m = s.reg m := by
  have whole : (s.setQuadReg n v).longReg n ++ (s.setQuadReg n v).longReg (n + 2) = v := s.quadReg_setQuadReg n v
  refine ⟨whole, ?_, ?_, fun m hm => s.reg_setQuadReg_other (by rwa [reg_add_two_add_one]) v⟩
  · exact (append_high_32 _ _).symm.trans (congrArg (BitVec.extractLsb' 32 32) whole)
  · exact (append_low_32 _ _).symm.trans (congrArg (BitVec.extractLsb' 0 32) whole)

/-- Settles O56: each view is a lemma of its own, all of them read off the sixteen words. -/
theorem registerViewsNeverDrift : Obligations.RegisterViewsNeverDrift := by
  intro s
  refine ⟨fun k v => byteRegAt_is_half s s.cfg.byteRegMap k v, fun k v => byteRegAt_is_half s .pair k v, fun k v =>
    ⟨s.byteReg_setByteReg k v, fun j hj => s.byteReg_setByteReg_other hj v⟩, fun n => ⟨rfl, ?_⟩, setLongReg_views s,
    fun n v _ => setQuadReg_views s n v, fun n v hn => ?_⟩
  · rw [State.quadReg, State.longReg, State.longReg, reg_add_two_add_one]
  · exact ⟨if_pos hn, if_pos hn⟩

end


/-! ### The step (70_reset_and_hazards.md R710) -/

section

variable (s : State)

/-- The offset after an even one is in the same segment. -/
theorem append_succ_of_even (x : BitVec 7) (y : Word) (h : (x ++ y : Addr).toNat % 2 = 0) :
    (x ++ (y + 1#16) : Addr).toNat = (x ++ y : Addr).toNat + 1 := by
  have one : (1#16).toNat = 1 := rfl
  rw [append_7_16_toNat] at h
  rw [append_7_16_toNat, append_7_16_toNat, BitVec.toNat_add, one]
  omega

/-- The byte after an even one is the other byte of its word (R93, R94). -/
theorem State.addrAdd_succ_of_even {a : Addr} {k : Word} (h : (s.addrAdd a k).toNat % 2 = 0) :
    s.addrAdd a (k + 1#16) = wordAlign (s.addrAdd a k) ||| 1#23 := by
  apply BitVec.eq_of_toNat_eq
  rw [wordAlign_or_one_toNat, wordAlign_of_even h]
  revert h
  unfold State.addrAdd
  rw [← BitVec.add_assoc]
  cases s.cfg.variant with
  | z8001 => exact append_succ_of_even _ _
  | z8002 => exact append_succ_of_even _ _

/-- Each word of the instruction at an even `pc` is two of its bytes. -/
theorem State.codeWord_of_even (hpc : s.pc.toNat % 2 = 0) (k : Nat) :
    s.codeWord k = s.readByte .program (s.addrAdd s.pc (BitVec.ofNat 16 (2 * k))) ++
      s.readByte .program (s.addrAdd s.pc (BitVec.ofNat 16 (2 * k + 1))) := by
  have even : (s.addrAdd s.pc (BitVec.ofNat 16 (2 * k))).toNat % 2 = 0 := by
    have := s.addrAdd_toNat_mod s.pc (BitVec.ofNat 16 (2 * k))
    rw [BitVec.toNat_ofNat] at this
    omega
  rw [BitVec.ofNat_add (2 * k) 1, s.addrAdd_succ_of_even even, State.codeWord, State.readWord, wordAlign_of_even even]

/-- The decoder of bytes answers what the decoder of words does (R133). -/
theorem decodeBytes_ok {seg : Bool} {bs tail : List Byte} {i : Instr} (h : decodeBytes seg bs = .ok (i, tail)) :
    decodeWords seg (wordsOfBytes bs) = i := by
  unfold decodeBytes at h
  dsimp only at h
  split at h
  · cases h
  · cases h
    rfl

/-- What the bytes at an even `pc` decode to is the instruction the step runs. -/
theorem State.decodeAt_of_codeBytes (hpc : s.pc.toNat % 2 = 0) {i : Instr} {tail : List Byte}
    (h : decodeBytes s.segmented s.codeBytes = .ok (i, tail)) : s.decodeAt = i := by
  rw [← decodeBytes_ok h, State.decodeAt, s.codeWord_of_even hpc, s.codeWord_of_even hpc, s.codeWord_of_even hpc,
    s.codeWord_of_even hpc]
  rfl

/-! #### The state in which an instruction executes -/

theorem State.begin_op_zero (i : Instr) : (s.begin i).op[0] = s.readWord .program s.pc :=
  Vector.getElem_setIfInBounds_self ..

theorem State.begin_segtrap (i : Instr) :
    SegtrapIs s (s.begin i) (accesses (.read .program) (s.wordCells s.pc)) :=
  (SegtrapIs.start.access rfl _ _).keep rfl

/-- The opcode fetch and the charge change no register, memory or flag (R710 steps 3 and 5). -/
theorem State.begin_frame (i : Instr) :
    Frame s (s.begin i) [] [] 0 { s.rest with
      ppc := s.pc, refresh := refreshed s.refresh, icount := s.icount - Config.cycles i.entry,
      totalCycles := s.totalCycles + Config.cycles i.entry } :=
  ⟨fun _ _ => rfl, fun _ _ => rfl, rfl,
    ((RestIs.refl s).access rfl (.read .program) (s.wordCells s.pc)).update
      (fun x => { x with
        ppc := s.pc, refresh := refreshed x.refresh, icount := x.icount - Config.cycles i.entry,
        totalCycles := x.totalCycles + Config.cycles i.entry })
      rfl (fun _ _ => rfl) fun _ => rfl⟩

/-- R54: REFRESH counts in its low byte, modulo 256, while bit 15 is set. -/
theorem refreshed_bytes (r : Word) :
    (refreshed r).extractLsb' 8 8 = r.extractLsb' 8 8 ∧
    (lowByte (refreshed r)).toNat =
      if r.getLsbD 15 then ((lowByte r).toNat + 1) % 256 else (lowByte r).toNat := by
  unfold refreshed lowByte
  split
  · rw [append_high_8, append_low_8, BitVec.toNat_add]
    exact ⟨rfl, rfl⟩
  · exact ⟨rfl, rfl⟩

/-- Where service leaves the machine running, the step is the instruction and the end of it. -/
theorem step_of_running (h : s.service.halt = false) : step s = s.service.runInstruction := by
  rw [step, State.stepOnce, h]
  rfl

/-- Settles O47: the state in which the instruction executes is `State.begin`. -/
theorem stepRunsTheDecodedInstruction : Obligations.StepRunsTheDecodedInstruction := by
  refine ⟨fun s i tail => ?_, fun s => refreshed_bytes s.refresh⟩
  intro u halt even decoded
  have hpc : u.pc.toNat % 2 = 0 := by
    have := even
    rw [BitVec.getLsbD, Nat.testBit_zero] at this
    simpa using this
  have hi : u.decodeAt = i := u.decodeAt_of_codeBytes hpc decoded
  refine ⟨u.begin i, ?_, u.begin_op_zero i, rfl, rfl, u.begin_segtrap i, u.begin_frame i⟩
  have run : step s = endOutcome (exec i (u.begin i)) := by
    rw [step_of_running s halt, State.runInstruction, hi]
  rw [run]
  cases exec i (u.begin i) <;> rfl

end

end Sys2Proof.Machine

namespace Sys2Proof.Machine

open Sys2Proof

/-! ### Effective addresses (20_memory.md R97; 30_encoding.md R143 to R150) -/

section

variable {s : State}

/-- Only the Z8001 has a segmented mode (R47). -/
theorem State.variant_of_segmented (h : s.segmented = true) : s.cfg.variant = .z8001 := by
  unfold State.segmented at h
  cases hv : s.cfg.variant with
  | z8001 => rfl
  | z8002 => rw [hv] at h; cases h

theorem State.segmented_of_z8002 (h : s.cfg.variant = .z8002) : s.segmented = false := by
  rw [State.segmented, h]

theorem State.addrAdd_of_z8001 (h : s.cfg.variant = .z8001) (a : Addr) (k : Word) :
    s.addrAdd a k = a.extractLsb' 16 7 ++ (a.extractLsb' 0 16 + k) := by
  rw [State.addrAdd, h]

theorem State.addrAdd_of_z8002 (h : s.cfg.variant = .z8002) (a : Addr) (k : Word) :
    s.addrAdd a k = 0#7 ++ (a.extractLsb' 0 16 + k) := by
  rw [State.addrAdd, h]

/-- `addr_add` of an address in parts: the offset moves, and the segment stays where it is the variant's (R96). -/
theorem State.addrAdd_append (s : State) {seg : BitVec 7} (h : s.cfg.variant = .z8002 → seg = 0) (off k : Word) :
    s.addrAdd (seg ++ off) k = seg ++ (off + k) := by
  cases hv : s.cfg.variant with
  | z8001 => rw [State.addrAdd_of_z8001 hv, append_seg, append_offset]
  | z8002 => rw [State.addrAdd_of_z8002 hv, append_offset, h hv]; rfl

/-- The segment of every address of non-segmented mode (R97, R144). -/
def State.nonsegSegment (s : State) : BitVec 7 := if s.cfg.variant = .z8001 then s.pc.extractLsb' 16 7 else 0#7

theorem State.nonsegAddr_eq (s : State) (off : Word) : s.nonsegAddr off = s.nonsegSegment ++ off := by
  unfold State.nonsegAddr State.nonsegSegment
  cases s.cfg.variant <;> rfl

theorem State.nonsegSegment_of_z8002 (h : s.cfg.variant = .z8002) : s.nonsegSegment = 0#7 := by
  simp [State.nonsegSegment, h]

theorem State.nonsegSegment_of_z8001 (h : s.cfg.variant = .z8001) : s.nonsegSegment = s.pc.extractLsb' 16 7 := by
  simp [State.nonsegSegment, h]

theorem State.addrAdd_pc (s : State) (k : Word) :
    s.addrAdd s.pc k = s.nonsegSegment ++ (s.pc.extractLsb' 0 16 + k) := by
  cases hv : s.cfg.variant with
  | z8001 => rw [State.addrAdd_of_z8001 hv, State.nonsegSegment_of_z8001 hv]
  | z8002 => rw [State.addrAdd_of_z8002 hv, State.nonsegSegment_of_z8002 hv]

theorem State.pointer_of_segmented (h : s.segmented = true) (n : Reg) :
    s.pointer n = (s.reg n).extractLsb' 8 7 ++ s.reg (n + 1) := if_pos h

theorem State.pointer_of_nonsegmented (h : s.segmented = false) (n : Reg) :
    s.pointer n = s.nonsegSegment ++ s.reg n := by
  rw [State.pointer, h, ← State.nonsegAddr_eq]
  rfl

/-- R143, R145 to R147, R149, R150 in segmented mode: segment and offset come from a pair or from the operand. -/
theorem ea_of_segmented (h : s.segmented = true) (n x : Reg) (seg : BitVec 7) (off : Word) (b : Byte) :
    (MemOp.ir n).ea s = (s.reg n).extractLsb' 8 7 ++ s.reg (n + 1) ∧
    (MemOp.da (.long seg off)).ea s = seg ++ off ∧
    (MemOp.da (.short seg b)).ea s = seg ++ (0#8 ++ b) ∧
    (MemOp.x n (.long seg off)).ea s = seg ++ (off + s.reg n) ∧
    (MemOp.x n (.short seg b)).ea s = seg ++ ((0#8 ++ b) + s.reg n) ∧
    (LdMem.ba n off).ea s = (s.reg n).extractLsb' 8 7 ++ (s.reg (n + 1) + off) ∧
    (LdMem.bx n x).ea s = (s.reg n).extractLsb' 8 7 ++ (s.reg (n + 1) + s.reg x) := by
  have z8001 : s.cfg.variant = .z8002 → ∀ t : BitVec 7, t = 0 := fun h2 => by
    rw [State.variant_of_segmented h] at h2
    cases h2
  have moved : ∀ (t : BitVec 7) (o k : Word), s.addrAdd (t ++ o) k = t ++ (o + k) :=
    fun t => s.addrAdd_append fun h2 => z8001 h2 t
  have base := State.pointer_of_segmented h n
  exact ⟨base, rfl, rfl, moved seg off _, moved seg _ _, by rw [LdMem.ea, base, moved], by rw [LdMem.ea, base, moved]⟩

/-- The same in the modes without segments, where every address has the segment `nonsegSegment`. -/
theorem ea_of_nonsegmented (h : s.segmented = false) (n x : Reg) (off : Word) :
    (MemOp.ir n).ea s = s.nonsegSegment ++ s.reg n ∧
    (MemOp.da (.nonseg off)).ea s = s.nonsegSegment ++ off ∧
    (MemOp.x n (.nonseg off)).ea s = s.nonsegSegment ++ (off + s.reg n) ∧
    (LdMem.ba n off).ea s = s.nonsegSegment ++ (s.reg n + off) ∧
    (LdMem.bx n x).ea s = s.nonsegSegment ++ (s.reg n + s.reg x) := by
  have moved := s.addrAdd_append (seg := s.nonsegSegment) State.nonsegSegment_of_z8002
  have base := State.pointer_of_nonsegmented h n
  have direct : (AddrOp.nonseg off).ea s = s.nonsegSegment ++ off := s.nonsegAddr_eq off
  exact ⟨base, direct, by rw [MemOp.ea, direct, moved], by rw [LdMem.ea, base, moved], by rw [LdMem.ea, base, moved]⟩

/-- Settles O57: the Z8002 and non-segmented mode differ in `nonsegSegment` only. -/
theorem effectiveAddressesOfEachMode : Obligations.EffectiveAddressesOfEachMode := by
  intro s n x seg off b
  refine ⟨fun h => ea_of_segmented h n x seg off b, fun h2 => ?_, fun h1 hn => ?_, s.fetchExt_relative off, ?_⟩
  · rw [← State.nonsegSegment_of_z8002 h2]
    exact ea_of_nonsegmented (State.segmented_of_z8002 h2) n x off
  · rw [← State.nonsegSegment_of_z8001 h1]
    exact ea_of_nonsegmented hn n x off
  · rw [BitVec.add_assoc]
    exact s.addrAdd_pc (2 + off)

end

/-! ### Memory (20_memory.md R92 to R104) -/

section

variable (s : State)

/-- A word access ignores bit 0 of its address (R94). -/
theorem State.readWord_wordAlign (r : Role) (a : Addr) : s.readWord r (wordAlign a) = s.readWord r a := by
  rw [State.readWord, wordAlign_wordAlign, State.readWord]

/-- An odd address is the second byte of its word. -/
theorem wordAlign_or_one_of_odd {a : Addr} (h : a.toNat % 2 = 1) : wordAlign a ||| 1#23 = a :=
  BitVec.eq_of_toNat_eq (by rw [wordAlign_or_one_toNat, wordAlign_toNat]; omega)

/-- A byte store is seen in its half of the word, and the other half is what memory held (R95). -/
theorem State.readWord_writeByte (q r : Role) (a : Addr) (v : Byte) :
    (s.writeByte q a v).bare.readWord r a = if a.getLsbD 0 then s.bare.readByte r (wordAlign a) ++ v
      else v ++ s.bare.readByte r (wordAlign a ||| 1#23) := by
  have apart := s.physical_word_ne a
  simp only [State.readWord, State.bare_readByte, State.writeByte_mem_read, State.writeByte_physical]
  cases h : a.getLsbD 0 with
  | true =>
    have odd : wordAlign a ||| 1#23 = a := wordAlign_or_one_of_odd (by simpa [BitVec.getLsbD, Nat.testBit_zero] using h)
    rw [odd] at apart ⊢
    rw [if_neg apart, if_pos rfl]
    rfl
  | false =>
    have even : wordAlign a = a := wordAlign_of_even (by simpa [BitVec.getLsbD, Nat.testBit_zero] using h)
    rw [even] at apart ⊢
    rw [if_pos rfl, if_neg apart.symm]
    rfl

/-- R104: a read of a byte for which the bus adaptor has no entry answers what memory holds. -/
theorem State.readByte_of_no_guard {r : Role} {a : Addr}
    (h : ∀ g ∈ s.guards, g.access = .read r → g.addr ≠ s.physical a) :
    s.readByte r a = s.mem.read (s.physical a) := by
  have none : s.guardOf (.read r) (s.physical a) = none :=
    List.find?_eq_none.2 fun g hg => by simpa using h g hg
  rw [State.readByte, none]

/-- R104: where all entries for the byte have one placeholder, a read answers it. -/
theorem State.readByte_of_guard {r : Role} {a : Addr} {g : Guard} (hg : g ∈ s.guards) (hk : g.access = .read r)
    (ha : g.addr = s.physical a)
    (same : ∀ f ∈ s.guards, f.access = .read r → f.addr = s.physical a → f.value = g.value) :
    s.readByte r a = g.value := by
  have some : (s.guardOf (.read r) (s.physical a)).isSome = true := (s.guarded_iff _ _).2 ⟨g, hg, hk, ha⟩
  obtain ⟨f, hf⟩ := Option.isSome_iff_exists.1 some
  have fits := List.find?_some hf
  simp only [Bool.and_eq_true, decide_eq_true_eq] at fits
  rw [State.readByte, hf]
  exact same f (List.mem_of_find?_eq_some hf) fits.1 fits.2

/-- R608: an access requests SEGTRAP exactly if the adaptor has an entry for one of its bytes. -/
theorem State.access_segtrap_iff (k : Access) (ns : List Nat) :
    (s.access k ns).irqReq.segtrap = true ↔
      s.irqReq.segtrap = true ∨ ∃ n ∈ ns, ∃ g ∈ s.guards, g.access = k ∧ g.addr = n := by
  simp only [State.access_segtrap, Bool.or_eq_true, List.any_eq_true, State.guarded_iff]

/-- Settles O55, from what each access does. -/
theorem memoryIsBigEndian : Obligations.MemoryIsBigEndian := by
  intro s q r a
  refine ⟨rfl, ?_, s.readWord_writeByte q r a, s.readWord_writeWord q r a, s.readLong_writeLong q r a,
    s.readByte_of_no_guard, fun g hg hk ha => s.readByte_of_guard hg hk ha, s.access_segtrap_iff⟩
  rw [State.readLong, State.readWord_wordAlign]

end

/-! ### Exception entry (60_exceptions.md R612, R613, R624, R626) -/

section

variable {s t u : State} {r : Rest}

/-! #### The stack pointer and the words of a frame -/

/-- A pointer moved by `k` is the address `addr_add` gives, in every mode (R96, R228, R400). -/
theorem State.pointer_stepPointer (s : State) (n : Reg) (k : Word) :
    (s.stepPointer n k).pointer n = s.addrAdd (s.pointer n) k := by
  cases h : s.segmented with
  | true =>
    have other : s.cfg.variant ≠ .z8002 := by rw [State.variant_of_segmented h]; decide
    rw [State.pointer_of_segmented (by simpa using h), State.pointer_of_segmented h,
      s.addrAdd_append fun h2 => absurd h2 other, State.stepPointer, State.offsetReg, h, if_pos rfl,
      State.reg_setReg_same, State.reg_setReg_other _ (reg_ne_succ n)]
  | false =>
    rw [State.pointer_of_nonsegmented (by simpa using h), State.pointer_of_nonsegmented h,
      s.addrAdd_append State.nonsegSegment_of_z8002, State.stepPointer, State.offsetReg, h, if_neg Bool.false_ne_true,
      State.reg_setReg_same]
    rfl

/-- The bytes of a word have its offset, but for bit 0 (R93, R94). -/
theorem State.wordCells_offset (s : State) {a : Addr} {x : Nat} (h : x ∈ s.wordCells a) :
    x % 65536 / 2 = a.toNat % 65536 / 2 := by
  simp only [State.wordCells, State.physical, wordAlign_or_one_toNat, wordAlign_toNat, List.mem_cons,
    List.not_mem_nil, or_false] at h
  cases hv : s.cfg.variant <;> simp only [hv, memorySize] at h <;> omega

/-- Those of a long have its offset or the next word's (R98). -/
theorem State.longCells_offset (s : State) {a : Addr} {x : Nat} (h : x ∈ s.longCells a) :
    x % 65536 / 2 = a.toNat % 65536 / 2 ∨ x % 65536 / 2 = (a.toNat + 2) % 65536 / 2 := by
  have moved := s.addrAdd_toNat_mod (wordAlign a) 2
  have two : (2 : Word).toNat = 2 := rfl
  have aligned := wordAlign_toNat a
  rcases List.mem_append.1 h with h | h
  · have := s.wordCells_offset h
    omega
  · have := s.wordCells_offset h
    omega

/-- What memory holds at a word depends on its two bytes only. -/
theorem State.bare_readWord_congr (hc : t.cfg = s.cfg) {q : Role} {a : Addr}
    (h : ∀ x ∈ s.wordCells a, t.mem.read x = s.mem.read x) : t.bare.readWord q a = s.bare.readWord q a := by
  simp only [State.readWord, State.bare_readByte, State.physical_congr hc]
  rw [h _ (by simp [State.wordCells]), h _ (by simp [State.wordCells])]

theorem State.bare_readLong_congr (hc : t.cfg = s.cfg) {q : Role} {a : Addr}
    (h : ∀ x ∈ s.longCells a, t.mem.read x = s.mem.read x) : t.bare.readLong q a = s.bare.readLong q a := by
  simp only [State.readLong, State.bare_addrAdd, State.addrAdd_congr hc]
  rw [State.bare_readWord_congr hc fun x hx => h x (List.mem_append.2 (.inl hx)),
    State.bare_readWord_congr hc fun x hx => h x (List.mem_append.2 (.inr hx))]

/-! #### Pushes -/

/-- `s` with the pointer `p` moved by `k`, the memory `m` and the requests `q`: what pushes on the stack at `p`
leave. -/
def State.pushed (s : State) (p : Reg) (k : Word) (m : Memory) (q : Requests) : State :=
  { s.stepPointer p k with mem := m, irqReq := q }

theorem State.pushWord_eq_pushed (s : State) (p : Reg) (w : Word) :
    s.pushWord p w = s.pushed p (-2) (s.pushWord p w).mem (s.pushWord p w).irqReq := rfl

theorem State.pushed_pushed (s : State) (p : Reg) (j k : Word) (m m' : Memory) (q q' : Requests) :
    (s.pushed p j m q).pushed p k m' q' = s.pushed p (j + k) m' q' := by
  rw [State.pushed, State.pushed, State.pushed, ← State.stepPointer_stepPointer]
  rfl

theorem State.pushWord_read (s : State) (p : Reg) (w : Word) {b : Nat}
    (h : b ∉ s.wordCells ((s.stepPointer p (-2)).pointer p)) : (s.pushWord p w).mem.read b = s.mem.read b :=
  State.writeWord_read _ _ _ _ (by simpa using h)

theorem State.pushLong_read (s : State) (p : Reg) (w : Long) {b : Nat}
    (h : b ∉ s.longCells ((s.stepPointer p (-4)).pointer p)) : (s.pushLong p w).mem.read b = s.mem.read b :=
  State.writeLong_read _ _ _ _ (by simpa using h)

theorem State.readWord_pushWord (s : State) (q : Role) (p : Reg) (w : Word) :
    (s.pushWord p w).bare.readWord q ((s.stepPointer p (-2)).pointer p) = w := State.readWord_writeWord _ _ _ _ _

theorem State.readLong_pushLong (s : State) (q : Role) (p : Reg) (w : Long) :
    (s.pushLong p w).bare.readLong q ((s.stepPointer p (-4)).pointer p) = w := State.readLong_writeLong _ _ _ _ _

theorem RestIs.writeWord (h : RestIs s u r) (hg : r.guards = s.guards) (q : Role) (a : Addr) (w : Word) :
    RestIs s (u.writeWord q a w) r :=
  (((h.access hg (.write q) (u.byteCells (wordAlign a))).keep (u := u.writeByte q (wordAlign a) _) rfl).access hg
    (.write q) _).keep rfl

theorem RestIs.pushWord (h : RestIs s u r) (hg : r.guards = s.guards) (p : Reg) (w : Word) :
    RestIs s (u.pushWord p w) r :=
  (h.keep (u := u.stepPointer p (-2)) rfl).writeWord hg _ _ w

theorem RestIs.pushLong (h : RestIs s u r) (hg : r.guards = s.guards) (p : Reg) (w : Long) :
    RestIs s (u.pushLong p w) r :=
  ((h.keep (u := u.stepPointer p (-4)) rfl).writeWord hg _ _ _).writeWord hg _ _ _

end

section

variable {s t u e : State} {r : Rest} {l l' : List (Access × Nat)}

/-- The accesses `l`, then `l'`. -/
theorem SegtrapIs.trans (h : SegtrapIs s t l) (hg : t.guards = s.guards) (h' : SegtrapIs t u l') :
    SegtrapIs s u (l ++ l') := by
  unfold SegtrapIs at h h' ⊢
  simp only [State.guarded_congr hg] at h'
  rw [h', h, List.any_append, Bool.or_assoc]

/-! #### The frame -/

section

variable {p : Reg} {k : Word} {cells : List Nat}

/-- From `e` to `t`, pushes on the stack at `p` moved the pointer down by `k` and stored the bytes `cells`. -/
structure Stacked (e t : State) (p : Reg) (k : Word) (cells : List Nat) : Prop where
  eq      : t = e.pushed p (-k) t.mem t.irqReq
  read    : ∀ b, b ∉ cells → t.mem.read b = e.mem.read b
  segtrap : SegtrapIs e t (accesses (.write .stack) cells)

theorem Stacked.cfg (h : Stacked e t p k cells) : t.cfg = e.cfg := by
  rw [h.eq]
  rfl

theorem Stacked.guards (h : Stacked e t p k cells) : t.guards = e.guards := by
  rw [h.eq]
  rfl

theorem Stacked.wordCells (h : Stacked e t p k cells) (a : Addr) : t.wordCells a = e.wordCells a := by
  simp only [State.wordCells, State.physical_congr h.cfg]

theorem Stacked.longCells (h : Stacked e t p k cells) (a : Addr) : t.longCells a = e.longCells a := by
  simp only [State.longCells, h.wordCells, State.addrAdd_congr h.cfg]

/-- Where the next word goes. -/
theorem Stacked.top (h : Stacked e t p k cells) :
    (t.stepPointer p (-2)).pointer p = (e.stepPointer p (-(k + 2))).pointer p := by
  have moved : -(k + 2) = -k + -2 := by ring
  rw [h.eq, moved, ← State.stepPointer_stepPointer]
  rfl

theorem Stacked.pushWord (h : Stacked e t p k cells) (w : Word) :
    Stacked e (t.pushWord p w) p (k + 2) (cells ++ e.wordCells ((e.stepPointer p (-(k + 2))).pointer p)) where
  eq := by
    have moved : -k + -2 = -(k + 2) := by ring
    conv_lhs => rw [State.pushWord_eq_pushed, h.eq, State.pushed_pushed, moved]
    rw [← h.eq]
  read b hb := by
    rw [List.mem_append, not_or] at hb
    rw [State.pushWord_read t p w (by rw [h.top, h.wordCells]; exact hb.2), h.read b hb.1]
  segtrap := by
    have := h.segtrap.pushWord h.guards p w
    rw [h.top, h.wordCells] at this
    simpa only [accesses, List.map_append] using this

/-- The word pushed last is at the top. -/
theorem Stacked.readWord_top (h : Stacked e t p k cells) (q : Role) (w : Word) :
    (t.pushWord p w).bare.readWord q ((e.stepPointer p (-(k + 2))).pointer p) = w := by
  rw [← h.top]
  exact t.readWord_pushWord q p w

/-- What memory holds at a word is kept by a push elsewhere. -/
theorem Stacked.readWord_other (h : Stacked e t p k cells) (q : Role) (w : Word) {a : Addr}
    (ha : ∀ x ∈ e.wordCells a, x ∉ e.wordCells ((e.stepPointer p (-(k + 2))).pointer p)) :
    (t.pushWord p w).bare.readWord q a = t.bare.readWord q a := by
  refine State.bare_readWord_congr (by simp) fun x hx => State.pushWord_read t p w ?_
  rw [h.wordCells] at hx
  rw [h.top, h.wordCells]
  exact ha x hx

theorem Stacked.readLong_other (h : Stacked e t p k cells) (q : Role) (w : Word) {a : Addr}
    (ha : ∀ x ∈ e.longCells a, x ∉ e.wordCells ((e.stepPointer p (-(k + 2))).pointer p)) :
    (t.pushWord p w).bare.readLong q a = t.bare.readLong q a := by
  refine State.bare_readLong_congr (by simp) fun x hx => State.pushWord_read t p w ?_
  rw [h.longCells] at hx
  rw [h.top, h.wordCells]
  exact ha x hx

/-- The offset of a place on the stack. -/
theorem State.stack_offset (e : State) (p : Reg) (k : Word) :
    ((e.stepPointer p k).pointer p).toNat % 65536 = ((e.pointer p).toNat + k.toNat) % 65536 := by
  rw [State.pointer_stepPointer, State.addrAdd_toNat_mod]

/-- Two places on the stack whose distance is 2 or 4 are apart. -/
theorem State.stack_apart (e : State) (p : Reg) {j k : Word} (h : k = j + 2 ∨ k = j + 4) :
    ∀ x ∈ e.wordCells ((e.stepPointer p (-j)).pointer p), x ∉ e.wordCells ((e.stepPointer p (-k)).pointer p) := by
  intro x hx hy
  have hx := e.wordCells_offset hx
  have hy := e.wordCells_offset hy
  rw [State.stack_offset] at hx hy
  rcases h with rfl | rfl
  · have : (-j).toNat = ((-(j + 2)).toNat + 2) % 65536 := by bv_omega
    omega
  · have : (-j).toNat = ((-(j + 4)).toNat + 4) % 65536 := by bv_omega
    omega

/-- A long and a word 2 or 4 below it are apart. -/
theorem State.stack_long_apart (e : State) (p : Reg) {j k : Word} (h : k = j + 2 ∨ k = j + 4) :
    ∀ x ∈ e.longCells ((e.stepPointer p (-j)).pointer p), x ∉ e.wordCells ((e.stepPointer p (-k)).pointer p) := by
  intro x hx hy
  have hx := e.longCells_offset hx
  have hy := e.wordCells_offset hy
  have hj := e.stack_offset p (-j)
  rw [State.stack_offset] at hy
  rcases h with rfl | rfl
  · have : (-j).toNat = ((-(j + 2)).toNat + 2) % 65536 := by bv_omega
    omega
  · have : (-j).toNat = ((-(j + 4)).toNat + 4) % 65536 := by bv_omega
    omega

end

end

section

variable {s t u e : State} {r : Rest} {c : Cause}

theorem accesses_append (k : Access) (ns ms : List Nat) : accesses k (ns ++ ms) = accesses k ns ++ accesses k ms :=
  List.map_append

theorem accesses_nil (k : Access) : accesses k [] = [] := rfl

/-! #### The state in which the frame is pushed (R624) -/

/-- System mode, and segmented mode on the Z8001: an entry pushes its frame in this state. -/
def State.entry (s : State) : State := s.changeFcw (s.fcw ||| if s.cfg.variant = .z8001 then 0xC000 else 0x4000)

theorem State.changeFcw_entryFcw (s : State) : s.changeFcw (entryFcw s.cfg.variant s.fcw) = s.entry := by
  unfold State.entry entryFcw
  cases s.cfg.variant <;> rfl

theorem State.entry_segmented (s : State) : s.entry.segmented = decide (s.cfg.variant = .z8001) := by
  unfold State.segmented State.entry
  rw [State.changeFcw_cfg, State.changeFcw_fcw]
  cases s.cfg.variant with
  | z8001 => simp [fcwSeg, fcwMask]
  | z8002 => rfl

/-- The cells where an entry from the state `e` puts PC: a long in segmented mode, else a word. -/
def State.pcCells (e : State) : List Nat :=
  if e.segmented then e.longCells ((e.stepPointer e.spReg (-4)).pointer e.spReg)
  else e.wordCells ((e.stepPointer e.spReg (-2)).pointer e.spReg)

/-- How many bytes it takes. -/
def State.pcSize (e : State) : Word := if e.segmented then 4 else 2

theorem Stacked.pushPc (e : State) (a : Addr) : Stacked e (e.pushPc a) e.spReg e.pcSize e.pcCells := by
  unfold State.pushPc State.pcCells State.pcSize
  cases e.segmented with
  | true => exact ⟨rfl, fun b hb => e.pushLong_read _ _ hb, SegtrapIs.start.pushLong rfl _ _⟩
  | false => exact ⟨rfl, fun b hb => e.pushWord_read _ _ hb, SegtrapIs.start.pushWord rfl _ _⟩

theorem RestIs.pushPc (h : RestIs s u r) (hg : r.guards = s.guards) (a : Addr) : RestIs s (u.pushPc a) r := by
  unfold State.pushPc
  split
  · exact h.pushLong hg _ _
  · exact h.pushWord hg _ _

/-- PC, the old FCW and the tag pushed in turn (R612, R624). -/
def State.pushFrame (e : State) (a : Addr) (f g : Word) : State :=
  ((e.pushPc a).pushWord e.spReg f).pushWord e.spReg g

/-- The cells of the frame, in the order of the pushes. -/
def State.frameCells (e : State) : List Nat :=
  e.pcCells ++ e.wordCells ((e.stepPointer e.spReg (-(e.pcSize + 2))).pointer e.spReg) ++
    e.wordCells ((e.stepPointer e.spReg (-(e.pcSize + 2 + 2))).pointer e.spReg)

theorem Stacked.pushFrame (e : State) (a : Addr) (f g : Word) :
    Stacked e (e.pushFrame a f g) e.spReg (e.pcSize + 2 + 2) e.frameCells :=
  ((Stacked.pushPc e a).pushWord f).pushWord g

theorem RestIs.pushFrame (h : RestIs s u r) (hg : r.guards = s.guards) (a : Addr) (f g : Word) :
    RestIs s (u.pushFrame a f g) r :=
  ((h.pushPc hg a).pushWord hg _ f).pushWord hg _ g

/-- What memory holds of the frame (R612). -/
theorem State.pushFrame_tag (e : State) (a : Addr) (f g : Word) (q : Role) :
    (e.pushFrame a f g).bare.readWord q ((e.stepPointer e.spReg (-(e.pcSize + 2 + 2))).pointer e.spReg) = g :=
  ((Stacked.pushPc e a).pushWord f).readWord_top q g

theorem State.pushFrame_fcw (e : State) (a : Addr) (f g : Word) (q : Role) :
    (e.pushFrame a f g).bare.readWord q ((e.stepPointer e.spReg (-(e.pcSize + 2))).pointer e.spReg) = f :=
  (((Stacked.pushPc e a).pushWord f).readWord_other q g (e.stack_apart _ (.inl rfl))).trans
    ((Stacked.pushPc e a).readWord_top q f)

theorem State.pushFrame_pc_long (h : e.segmented = true) (a : Addr) (f g : Word) (q : Role) :
    (e.pushFrame a f g).bare.readLong q ((e.stepPointer e.spReg (-4)).pointer e.spReg) = segWord a ++ offset a := by
  have size : e.pcSize = 4 := if_pos h
  have pushed : e.pushPc a = e.pushLong e.spReg (segWord a ++ offset a) := if_pos h
  have first := Stacked.pushPc e a
  have second := first.pushWord f
  rw [size] at first second
  rw [State.pushFrame, second.readLong_other q g (e.stack_long_apart _ (.inr rfl)),
    first.readLong_other q f (e.stack_long_apart _ (.inl rfl)), pushed, State.readLong_pushLong]

theorem State.pushFrame_pc_word (h : e.segmented = false) (a : Addr) (f g : Word) (q : Role) :
    (e.pushFrame a f g).bare.readWord q ((e.stepPointer e.spReg (-2)).pointer e.spReg) = offset a := by
  have size : e.pcSize = 2 := by rw [State.pcSize, h]; rfl
  have pushed : e.pushPc a = e.pushWord e.spReg (offset a) := by rw [State.pushPc, h]; rfl
  have first := Stacked.pushPc e a
  have second := first.pushWord f
  rw [size] at first second
  rw [State.pushFrame, second.readWord_other q g (e.stack_apart _ (.inr rfl)),
    first.readWord_other q f (e.stack_apart _ (.inl rfl)), pushed, State.readWord_pushWord]

/-! #### The entry in the program status area (R613) -/

/-- The cells of an entry, in the order in which they are read. -/
def State.vectorCells (s : State) (c : Cause) : List Nat :=
  s.wordCells (s.addrAdd s.psapBase (s.psaFcwOffset c)) ++ s.wordCells (s.addrAdd s.psapBase (s.psaPcOffset c)) ++
    if s.cfg.variant = .z8001 then s.wordCells (s.addrAdd s.psapBase (s.psaPcOffset c + 2)) else []

/-- Reading an entry makes accesses only. -/
theorem State.touchVector_eq (s : State) (c : Cause) :
    s.touchVector c = { s with irqReq := (s.touchVector c).irqReq } := by
  unfold State.touchVector
  cases s.cfg.variant <;> rfl

theorem SegtrapIs.touchVector (s : State) (c : Cause) :
    SegtrapIs s (s.touchVector c) (accesses (.read .program) (s.vectorCells c)) := by
  have two := (SegtrapIs.start.touchPsa (s := s) rfl (s.psaFcwOffset c)).touchPsa rfl (s.psaPcOffset c)
  unfold State.touchVector State.vectorCells
  rw [accesses_append, accesses_append]
  cases s.cfg.variant with
  | z8001 => exact two.touchPsa rfl (s.psaPcOffset c + 2)
  | z8002 => rw [if_neg (by decide), accesses_nil, List.append_nil]; exact two

theorem RestIs.touchVector (h : RestIs s u r) (hg : r.guards = s.guards) (c : Cause) :
    RestIs s (u.touchVector c) r := by
  unfold State.touchVector
  split
  · exact ((h.access hg _ _).access hg _ _).access hg _ _
  · exact (h.access hg _ _).access hg _ _

/-- An entry depends on memory, the adaptor, PSAP, the vector and the variant only. -/
structure SameEntry (s t : State) : Prop where
  cfg     : t.cfg = s.cfg
  mem     : t.mem = s.mem
  guards  : t.guards = s.guards
  psapSeg : t.psapSeg = s.psapSeg
  psapOff : t.psapOff = s.psapOff
  irqVec  : t.irqVec = s.irqVec

theorem SameEntry.psapBase (h : SameEntry s t) : t.psapBase = s.psapBase := by
  simp only [State.psapBase, h.cfg, h.psapSeg, h.psapOff]

theorem SameEntry.psaFcwOffset (h : SameEntry s t) (c : Cause) : t.psaFcwOffset c = s.psaFcwOffset c := by
  simp only [State.psaFcwOffset, h.cfg]

theorem SameEntry.psaPcOffset (h : SameEntry s t) (c : Cause) : t.psaPcOffset c = s.psaPcOffset c := by
  simp only [State.psaPcOffset, State.vector, h.cfg, h.irqVec]

theorem SameEntry.psaWord (h : SameEntry s t) (o : Word) : t.psaWord o = s.psaWord o := by
  rw [State.psaWord, State.psaWord, h.psapBase, State.addrAdd_congr h.cfg, State.readWord_congr h.cfg h.mem h.guards]

theorem SameEntry.vectorFcw (h : SameEntry s t) (c : Cause) : t.vectorFcw c = s.vectorFcw c := by
  rw [State.vectorFcw, State.vectorFcw, h.psaFcwOffset, h.psaWord]

theorem SameEntry.vectorPc (h : SameEntry s t) (c : Cause) : t.vectorPc c = s.vectorPc c := by
  simp only [State.vectorPc, h.cfg, h.psaPcOffset, h.psaWord]

/-- The cells of an entry depend on less: memory has no part in them. -/
theorem State.vectorCells_congr (hc : t.cfg = s.cfg) (hs : t.psapSeg = s.psapSeg) (ho : t.psapOff = s.psapOff)
    (hv : t.irqVec = s.irqVec) (c : Cause) : t.vectorCells c = s.vectorCells c := by
  simp only [State.vectorCells, State.wordCells, State.physical_congr hc, State.addrAdd_congr hc, State.psapBase,
    State.psaFcwOffset, State.psaPcOffset, State.vector, hc, hs, ho, hv]

/-! #### The end of an entry (R624, R626) -/

/-- The request of the cause and the halt cleared. -/
def State.served (s : State) (c : Cause) : State := { s with irqReq := s.irqReq.clear c, halt := false }

theorem RestIs.served (h : RestIs s t r) (c : Cause) :
    RestIs s (t.served c) { r with irqReq := r.irqReq.clear c, halt := false } := by
  by_cases hc : c = .segtrap
  · subst hc
    refine .of_eq ?_
    have e : (t.served .segtrap).rest = { t.rest with irqReq := t.rest.irqReq.clear .segtrap, halt := false } := rfl
    rw [e, h.1]
    rfl
  · exact h.update (fun x => { x with irqReq := x.irqReq.clear c, halt := false }) rfl
      (fun _ _ => by cases c with | segtrap => exact absurd rfl hc | _ => rfl)
      fun _ => by cases c with | segtrap => exact absurd rfl hc | _ => rfl

/-- What a whole-FCW write does to the other fields, whatever was done before it (R57). -/
theorem RestIs.changeFcw_again (h : RestIs s t (s.restSwitched u)) (w : Word) :
    RestIs s (t.changeFcw w) (s.restSwitched (t.changeFcw w)) :=
  h.update (fun x => { x with nspSeg := (t.changeFcw w).nspSeg, nspOff := (t.changeFcw w).nspOff })
    (t.changeFcw_rest w) (fun _ _ => rfl) fun _ => rfl

/-- The state once the frame of the cause `c` is pushed. -/
def State.framed (s : State) (c : Cause) : State := s.entry.pushFrame s.pc s.fcw (s.tag c)

/-- Taking an exception: the frame pushed, FCW and PC of the entry installed, and the request cleared. -/
theorem State.enter_eq (s : State) (c : Cause) :
    s.enter c = ((((s.framed c).touchVector c).changeFcw ((s.framed c).vectorFcw c)).setPc
      ((s.framed c).vectorPc c)).served c := by
  have sp2 : (s.entry.pushPc s.pc).spReg = s.entry.spReg := by
    unfold State.pushPc
    cases s.entry.segmented <;> simp
  have sp3 : ∀ w, ((s.entry.pushPc s.pc).pushWord s.entry.spReg w).spReg = s.entry.spReg := fun w => by
    rw [State.pushWord_spReg, sp2]
  unfold State.enter
  simp only [State.changeFcw_entryFcw, State.framed, State.pushFrame, sp2, sp3]
  rfl

theorem State.framed_stacked (s : State) (c : Cause) :
    Stacked s.entry (s.framed c) s.entry.spReg (s.entry.pcSize + 2 + 2) s.entry.frameCells :=
  .pushFrame s.entry s.pc s.fcw (s.tag c)

theorem State.framed_cfg (s : State) (c : Cause) : (s.framed c).cfg = s.cfg :=
  (s.framed_stacked c).cfg.trans (s.changeFcw_cfg _)

theorem State.framed_guards (s : State) (c : Cause) : (s.framed c).guards = s.guards :=
  (s.framed_stacked c).guards.trans (s.changeFcw_guards _)

/-- What is read of the entry accesses only, before FCW and PC are installed. -/
theorem State.touchVector_pushed (s : State) (c : Cause) :
    (s.framed c).touchVector c = s.entry.pushed s.entry.spReg (-(s.entry.pcSize + 2 + 2)) (s.framed c).mem
      ((s.framed c).touchVector c).irqReq :=
  ((s.framed c).touchVector_eq c).trans
    (congrArg (fun t : State => { t with irqReq := ((s.framed c).touchVector c).irqReq }) (s.framed_stacked c).eq)

theorem State.enter_mem (s : State) (c : Cause) : (s.enter c).mem = (s.framed c).mem := by
  rw [State.enter_eq, State.touchVector_pushed]
  simp [State.served, State.pushed]

theorem State.enter_cfg (s : State) (c : Cause) : (s.enter c).cfg = s.cfg := (enter_keepsLegal s c).cfg

/-- The entry is what it was when it was read. -/
theorem State.enter_sameEntry (s : State) (c : Cause) : SameEntry (s.framed c) (s.enter c) where
  cfg := (s.enter_cfg c).trans (s.framed_cfg c).symm
  mem := s.enter_mem c
  guards := by rw [State.enter_eq, State.touchVector_eq]; simp [State.served]
  psapSeg := by rw [State.enter_eq, State.touchVector_eq]; simp [State.served]
  psapOff := by rw [State.enter_eq, State.touchVector_eq]; simp [State.served]
  irqVec := by rw [State.enter_eq, State.touchVector_eq]; simp [State.served]

theorem State.enter_switched (s : State) (c : Cause) :
    Switched (s.entry.stepPointer s.entry.spReg (-(s.entry.pcSize + 2 + 2))) (s.enter c) ((s.enter c).vectorFcw c) := by
  rw [(s.enter_sameEntry c).vectorFcw, State.enter_eq, State.touchVector_pushed]
  exact (State.changeFcw_switched _ _).congr rfl rfl (fun _ => rfl) rfl rfl

theorem State.enter_pc (s : State) (c : Cause) : (s.enter c).pc = pcValue s.cfg.variant ((s.enter c).vectorPc c) := by
  rw [(s.enter_sameEntry c).vectorPc, State.enter_eq, State.touchVector_eq]
  simp [State.served, State.framed_cfg]

theorem State.enter_storeFrame (s : State) (c : Cause) :
    StoreFrame s (s.enter c) s.entry.frameCells 0xFFFF
      { s.restSwitched (s.enter c) with irqReq := s.irqReq.clear c, halt := false } := by
  have none : ~~~(0xFFFF : Word) = 0#16 := by decide
  refine ⟨fun b hb => ?_, by rw [none, BitVec.and_zero, BitVec.and_zero], ?_⟩
  · rw [State.enter_mem, (s.framed_stacked c).read b hb]
    exact congrArg (Memory.read · b) (s.changeFcw_mem _)
  · have pushed : RestIs s (s.framed c) (s.restSwitched s.entry) :=
      ((RestIs.refl s).changeFcw _).pushFrame rfl s.pc s.fcw (s.tag c)
    rw [State.enter_eq]
    exact (((pushed.touchVector rfl c).changeFcw_again _).keep rfl).served c

/-- Every access of an entry, in order: the frame's, then those of its place in the program status area. -/
theorem State.enter_segtrap (s : State) {c : Cause} (hc : c ≠ .segtrap) :
    SegtrapIs s (s.enter c) (accesses (.write .stack) s.entry.frameCells ++
      accesses (.read .program) (s.vectorCells c)) := by
  have start : SegtrapIs s s.entry [] := SegtrapIs.start.keep (by simp [State.entry])
  have frame := start.trans (s.changeFcw_guards _) (s.framed_stacked c).segtrap
  have cells : (s.framed c).vectorCells c = s.vectorCells c := by
    refine State.vectorCells_congr (s.framed_cfg c) ?_ ?_ ?_ c <;> rw [(s.framed_stacked c).eq] <;>
      simp [State.pushed, State.entry]
  have whole := frame.trans (s.framed_guards c) (.touchVector _ c)
  rw [cells] at whole
  refine whole.keep ?_
  rw [State.enter_eq]
  have kept : ∀ q : Requests, (q.clear c).segtrap = q.segtrap := fun q => by
    cases c with | segtrap => exact absurd rfl hc | _ => rfl
  simp [State.served, kept]

theorem State.enter_segtrap_self (s : State) : (s.enter .segtrap).irqReq.segtrap = false := by
  rw [State.enter_eq]
  rfl

/-- What memory holds after an entry is what the frame left there. -/
theorem State.enter_readWord (s : State) (c : Cause) (q : Role) (a : Addr) :
    (s.enter c).bare.readWord q a = (s.framed c).bare.readWord q a :=
  State.bare_readWord_congr (s.enter_sameEntry c).cfg fun _ _ => by rw [State.enter_mem]

theorem State.enter_readLong (s : State) (c : Cause) (q : Role) (a : Addr) :
    (s.enter c).bare.readLong q a = (s.framed c).bare.readLong q a :=
  State.bare_readLong_congr (s.enter_sameEntry c).cfg fun _ _ => by rw [State.enter_mem]

theorem State.tag_eq (s : State) {c : Cause} :
    s.tag c = if c = .epu ∨ c = .trap ∨ c = .syscall then s.op[0] else s.irqVec := by
  cases c <;> rfl

/-- Where an entry puts PC, and how many bytes the frame has (R612). -/
theorem State.entry_pcCells (s : State) :
    s.entry.pcCells = if s.cfg.variant = .z8001 then s.longCells ((s.entry.stepPointer s.entry.spReg (-4)).pointer
        s.entry.spReg)
      else s.wordCells ((s.entry.stepPointer s.entry.spReg (-2)).pointer s.entry.spReg) := by
  have word : s.entry.wordCells = s.wordCells := funext (s.changeFcw_wordCells _)
  have long : s.entry.longCells = s.longCells := funext (s.changeFcw_longCells _)
  simp only [State.pcCells, s.entry_segmented, word, long, decide_eq_true_eq]

theorem State.entry_pcSize (s : State) : s.entry.pcSize = if s.cfg.variant = .z8001 then 4 else 2 := by
  simp only [State.pcSize, s.entry_segmented, decide_eq_true_eq]

/-- Settles O49: the frame is `framed_stacked`, and what follows it is the installing of the entry. -/
theorem exceptionEntryBuildsTheFrame : Obligations.ExceptionEntryBuildsTheFrame := by
  intro s c _ long u p top t size pcCells psaCells
  have hsize : size = s.entry.pcSize + 2 + 2 := by
    rw [s.entry_pcSize]
    by_cases h : s.cfg.variant = .z8001 <;> simp [size, long, h]
  have hfcw : size - 2 = s.entry.pcSize + 2 := by rw [hsize]; bv_omega
  have hpc : size - 4 = s.entry.pcSize := by rw [hsize]; bv_omega
  have word : ∀ a, s.entry.wordCells a = s.wordCells a := s.changeFcw_wordCells _
  have cells : s.entry.frameCells = pcCells ++ s.wordCells (top (size - 2)) ++ s.wordCells (top size) := by
    rw [State.frameCells, word, word, s.entry_pcCells, hfcw, hsize]
    rfl
  have vector : s.vectorCells c = psaCells (s.psaFcwOffset c) ++ psaCells (s.psaPcOffset c) ++
      if long then psaCells (s.psaPcOffset c + 2) else [] := rfl
  obtain ⟨mem, fcw, rest⟩ := s.enter_storeFrame c
  refine ⟨?_, ?_, fun h => ?_, fun h => ?_, ?_, s.enter_pc c, ⟨fun a ha => mem a ?_, fcw, rest⟩, fun h => ?_, ?_⟩
  · rw [hsize, s.enter_readWord, ← s.tag_eq]
    exact s.entry.pushFrame_tag s.pc s.fcw (s.tag c) .stack
  · rw [hfcw, s.enter_readWord]
    exact s.entry.pushFrame_fcw s.pc s.fcw (s.tag c) .stack
  · rw [hpc, s.entry_pcSize, if_pos h, s.enter_readLong]
    exact State.pushFrame_pc_long (s.entry_segmented.trans (decide_eq_true h)) s.pc s.fcw (s.tag c) .stack
  · rw [hpc, s.entry_pcSize, if_neg h, s.enter_readWord]
    exact State.pushFrame_pc_word (s.entry_segmented.trans (decide_eq_false h)) s.pc s.fcw (s.tag c) .stack
  · rw [hsize]
    exact s.enter_switched c
  · simp only [cells, List.mem_append, not_or] at ha ⊢
    exact ⟨⟨ha.2, ha.1.2⟩, ha.1.1⟩
  · rw [← cells, ← vector]
    exact s.enter_segtrap h
  · rintro rfl
    exact s.enter_segtrap_self

end

/-! ### What every instruction does besides its own effect (20_memory.md R91, R103; 30_encoding.md R131, R152)

Whatever an instruction does once its words are fetched, it fills no operand slot, and it makes the accesses that
`Instr.operandAccesses` lists. Both follow, update by update, in the one relation `Makes`. -/

section

variable {b : Bool} {s t u : State} {l l' : List (Access × Nat)}

/-- From `s` to `t` the accesses `l` are made; the parameters, `ppc`, the operand slots and the bus adaptor stay, and so
does `pc` unless `b` says that it may be set. -/
structure Makes (b : Bool) (s t : State) (l : List (Access × Nat)) : Prop where
  cfg     : t.cfg = s.cfg
  ppc     : t.ppc = s.ppc
  op      : t.op = s.op
  opValid : t.opValid = s.opValid
  guards  : t.guards = s.guards
  pc      : b = false → t.pc = s.pc
  segtrap : SegtrapIs s t l

theorem Makes.trans (h : Makes b s t l) (h' : Makes b t u l') : Makes b s u (l ++ l') where
  cfg := h'.cfg.trans h.cfg
  ppc := h'.ppc.trans h.ppc
  op := h'.op.trans h.op
  opValid := h'.opValid.trans h.opValid
  guards := h'.guards.trans h.guards
  pc hb := (h'.pc hb).trans (h.pc hb)
  segtrap := h.segtrap.trans h.guards h'.segtrap

/-- An update without accesses follows. -/
theorem Makes.andThen (h : Makes b s t l) (h' : Makes b t u []) : Makes b s u l := by
  simpa using h.trans h'

/-- An update without accesses goes before. -/
theorem Makes.after (h' : Makes b t u l) (h : Makes b s t []) : Makes b s u l := h.trans h'

/-- Accesses that leave the other fields alone. -/
theorem Makes.of_segtrapIs (h : SegtrapIs s t l) (e : (t.cfg, t.ppc, t.op, t.opValid, t.guards, t.pc) =
    (s.cfg, s.ppc, s.op, s.opValid, s.guards, s.pc)) : Makes b s t l := by
  simp only [Prod.mk.injEq] at e
  obtain ⟨cfg, ppc, op, opValid, guards, pc⟩ := e
  exact ⟨cfg, ppc, op, opValid, guards, fun _ => pc, h⟩

theorem Makes.refl (s : State) : Makes b s s [] := .of_segtrapIs .start rfl

theorem Makes.ite {c : Prop} [Decidable c] (h : Makes b s t l) (h' : Makes b s u l) :
    Makes b s (if c then t else u) l := by
  split
  · exact h
  · exact h'

/-! #### Updates without accesses -/

/-- An update that writes none of those fields and requests no SEGTRAP. -/
theorem Makes.quiet (e : (t.cfg, t.ppc, t.op, t.opValid, t.guards, t.pc) =
    (s.cfg, s.ppc, s.op, s.opValid, s.guards, s.pc)) (h : t.irqReq.segtrap = s.irqReq.segtrap) : Makes b s t [] :=
  .of_segtrapIs (SegtrapIs.start.keep h) e

theorem Makes.setReg (s : State) (n : Reg) (v : Word) : Makes b s (s.setReg n v) [] := .quiet rfl rfl
theorem Makes.setByteReg (s : State) (k : Reg) (v : Byte) : Makes b s (s.setByteReg k v) [] := .quiet rfl rfl
theorem Makes.setLongReg (s : State) (n : Reg) (v : Long) : Makes b s (s.setLongReg n v) [] := .quiet rfl rfl
theorem Makes.setQuadReg (s : State) (n : Reg) (v : Quad) : Makes b s (s.setQuadReg n v) [] := .quiet rfl rfl
theorem Makes.stepPointer (s : State) (n : Reg) (k : Word) : Makes b s (s.stepPointer n k) [] := .quiet rfl rfl
theorem Makes.setFlags (s : State) (f : FlagUpdate) : Makes b s (s.setFlags f) [] := .quiet rfl rfl
theorem Makes.drawn (s : State) : Makes b s s.drawn [] := .quiet rfl rfl
theorem Makes.countDown (s : State) (r : Reg) : Makes b s (s.countDown r) [] := .quiet rfl rfl

theorem Makes.raise (s : State) {c : Cause} (h : c ≠ .segtrap) : Makes b s (s.raise c) [] :=
  .quiet rfl (by cases c with | segtrap => exact absurd rfl h | _ => rfl)

theorem Makes.changeFcw (s : State) (v : Word) : Makes b s (s.changeFcw v) [] := .quiet (by simp) (by simp)

/-- Only where `pc` may be set. -/
theorem Makes.setPc (s : State) (a : Addr) : Makes true s (s.setPc a) [] :=
  ⟨rfl, rfl, rfl, rfl, rfl, fun h => Bool.noConfusion h, .start⟩

theorem Makes.againIf (s : State) (again : Bool) : Makes true s (s.againIf again) [] :=
  ⟨rfl, rfl, rfl, rfl, rfl, fun h => Bool.noConfusion h, .start⟩

theorem Makes.divisionTrap (s : State) (bad : Bool) : Makes b s (s.divisionTrap bad) [] := by
  unfold State.divisionTrap
  exact .ite (.raise s (by decide)) (.refl s)

/-! #### Updates with accesses -/

theorem Makes.access (s : State) (k : Access) (ns : List Nat) : Makes b s (s.access k ns) (accesses k ns) :=
  .of_segtrapIs (SegtrapIs.start.access rfl k ns) rfl

theorem Makes.ioEvent (s : State) (e : IoEvent) :
    Makes b s (s.ioEvent e) (accesses (ioAccess e).1 [(ioAccess e).2.toNat]) :=
  (Makes.access s _ _).andThen (.quiet rfl rfl)

theorem Makes.writeByte (s : State) (q : Role) (a : Addr) (v : Byte) :
    Makes b s (s.writeByte q a v) (accesses (.write q) (s.byteCells a)) :=
  .of_segtrapIs (SegtrapIs.start.writeByte rfl q a v) rfl

theorem Makes.writeWord (s : State) (q : Role) (a : Addr) (v : Word) :
    Makes b s (s.writeWord q a v) (accesses (.write q) (s.wordCells a)) :=
  .of_segtrapIs (SegtrapIs.start.writeWord rfl q a v) rfl

theorem Makes.writeLong (s : State) (q : Role) (a : Addr) (v : Long) :
    Makes b s (s.writeLong q a v) (accesses (.write q) (s.longCells a)) :=
  .of_segtrapIs (SegtrapIs.start.writeLong rfl q a v) (by simp)

theorem Makes.pushWord (s : State) (p : Reg) (v : Word) :
    Makes b s (s.pushWord p v) (accesses (.write .stack) (s.wordCells ((s.stepPointer p (-2)).pointer p))) :=
  .of_segtrapIs (SegtrapIs.start.pushWord rfl p v) (by simp)

theorem Makes.pushLong (s : State) (p : Reg) (v : Long) :
    Makes b s (s.pushLong p v) (accesses (.write .stack) (s.longCells ((s.stepPointer p (-4)).pointer p))) :=
  .of_segtrapIs (SegtrapIs.start.pushLong rfl p v) (by simp)

theorem Makes.dropWord (s : State) (p : Reg) :
    Makes b s (s.dropWord p) (accesses (.read .stack) (s.wordCells (s.pointer p))) :=
  (Makes.access s _ _).andThen (.stepPointer _ p 2)

theorem Makes.dropLong (s : State) (p : Reg) :
    Makes b s (s.dropLong p) (accesses (.read .stack) (s.longCells (s.pointer p))) :=
  (Makes.access s _ _).andThen (.stepPointer _ p 4)

/-- The bytes to which a return address is pushed (R228 `SPREG`, R370). -/
def State.callCells (s : State) : List Nat :=
  if s.segmented then s.longCells ((s.stepPointer 14 (-4)).pointer 14)
  else s.wordCells ((s.stepPointer 15 (-2)).pointer 15)

/-- The bytes from which one is popped. -/
def State.returnCells (s : State) : List Nat :=
  if s.segmented then s.longCells (s.pointer 14) else s.wordCells (s.pointer 15)

theorem Makes.pushPc (s : State) (a : Addr) : Makes b s (s.pushPc a) (accesses (.write .stack) s.callCells) := by
  unfold State.pushPc State.spReg State.callCells
  split
  · exact .pushLong s 14 _
  · exact .pushWord s 15 _

theorem Makes.popPc (s : State) : Makes b s s.popPc.2 (accesses (.read .stack) s.returnCells) := by
  unfold State.popPc State.spReg State.returnCells
  split
  · exact .dropLong s 14
  · exact .dropWord s 15

theorem Makes.callTo (s : State) (a : Addr) :
    Makes true s (s.callTo a) (accesses (.write .stack) s.callCells) :=
  (Makes.pushPc s s.pc).andThen (.setPc _ a)

/-- R375: a return whose condition fails pops nothing. -/
theorem Makes.ret (s : State) (c : CondCode) :
    Makes true s (if cc c s.fcw then s.popPc.2.setPc s.popPc.1 else s)
      (if cc c s.fcw then accesses (.read .stack) s.returnCells else []) := by
  split
  · exact (Makes.popPc s).andThen (.setPc _ _)
  · exact .refl s

end

/-! #### Operands -/

section

variable {b : Bool} {n : Nat} {w : Width n} {cells : State → Addr → List Nat}

/-- A width whose reads and writes in memory are of the bytes `cells`. -/
structure Width.Covers {n : Nat} (w : Width n) (cells : State → Addr → List Nat) : Prop where
  setReg : ∀ {b : Bool} (s : State) (r : Reg) (v : BitVec n), Makes b s (w.setReg s r v) []
  touch  : ∀ {b : Bool} (s : State) (a : Addr), Makes b s (w.touch s a) (accesses (.read .data) (cells s a))
  store  : ∀ {b : Bool} (s : State) (a : Addr) (v : BitVec n),
    Makes b s (w.store s a v) (accesses (.write .data) (cells s a))
  congr  : ∀ {s t : State}, t.cfg = s.cfg → cells t = cells s

theorem byteCells_congr {s t : State} (h : t.cfg = s.cfg) : t.byteCells = s.byteCells :=
  funext fun a => by rw [State.byteCells, State.byteCells, State.physical_congr h]

theorem wordCells_congr {s t : State} (h : t.cfg = s.cfg) : t.wordCells = s.wordCells :=
  funext fun a => by simp only [State.wordCells, State.physical_congr h]

theorem longCells_congr {s t : State} (h : t.cfg = s.cfg) : t.longCells = s.longCells :=
  funext fun a => by simp only [State.longCells, wordCells_congr h, State.addrAdd_congr h]

theorem byteW_covers : byteW.Covers State.byteCells :=
  ⟨.setByteReg, fun s _ => .access s _ _, fun s => .writeByte s .data, byteCells_congr⟩

theorem wordW_covers : wordW.Covers State.wordCells :=
  ⟨.setReg, fun s _ => .access s _ _, fun s => .writeWord s .data, wordCells_congr⟩

theorem longW_covers : longW.Covers State.longCells :=
  ⟨.setLongReg, fun s _ => .access s _ _, fun s => .writeLong s .data, longCells_congr⟩

theorem Place.touch_makes (hw : w.Covers cells) (s : State) (p : Place) :
    Makes b s (p.touch w s) (p.accesses (.read .data) (cells s)) :=
  match p with
  | .reg _ => .refl s
  | .addr a => hw.touch s a

theorem Place.put_makes (hw : w.Covers cells) (s : State) (v : BitVec n) (p : Place) :
    Makes b s (p.put w s v) (p.accesses (.write .data) (cells s)) :=
  match p with
  | .reg r => hw.setReg s r v
  | .addr a => hw.store s a v

theorem Source.touch_makes (hw : w.Covers cells) (s : State) (src : Source (BitVec n)) :
    Makes b s (src.touch w s) (src.reads (cells s) s) :=
  match src with
  | .reg _ => .refl s
  | .imm _ => .refl s
  | .mem m => hw.touch s (m.ea s)

/-- What is stored after other accesses goes to the bytes it would go to before them. -/
theorem Makes.put {s t : State} {l : List (Access × Nat)} (h : Makes b s t l) (hw : w.Covers cells) (v : BitVec n)
    (p : Place) : Makes b s (p.put w t v) (l ++ p.accesses (.write .data) (cells s)) := by
  rw [← hw.congr h.cfg]
  exact h.trans (p.put_makes hw t v)

theorem Makes.store {s t : State} {l : List (Access × Nat)} (h : Makes b s t l) (hw : w.Covers cells) (a : Addr)
    (v : BitVec n) : Makes b s (w.store t a v) (l ++ accesses (.write .data) (cells s a)) :=
  h.put hw v (.addr a)

theorem Makes.touch {s t : State} {l : List (Access × Nat)} (h : Makes b s t l) (hw : w.Covers cells) (a : Addr) :
    Makes b s (w.touch t a) (l ++ accesses (.read .data) (cells s a)) := by
  rw [← hw.congr h.cfg]
  exact h.trans (hw.touch t a)

end

/-! #### The shapes of effects -/

section

variable {b : Bool} {n : Nat} {w : Width n} {cells : State → Addr → List Nat}

theorem loadFrom_makes (hw : w.Covers cells) (d : Reg) (a : Addr) (s : State) :
    Makes b s (loadFrom w d a s) (accesses (.read .data) (cells s a)) :=
  (hw.touch s a).andThen (hw.setReg _ d _)

theorem binary_makes (hw : w.Covers cells) (d : Reg) (src : Source (BitVec n))
    (op : BitVec n → BitVec n → BitVec n × FlagUpdate) (s : State) :
    Makes b s (binary w d src op s) (src.reads (cells s) s) :=
  ((Source.touch_makes hw s src).andThen (hw.setReg _ d _)).andThen (.setFlags _ _)

theorem compareWith_makes (hw : w.Covers cells) (d : Reg) (src : Source (BitVec n))
    (op : BitVec n → BitVec n → FlagUpdate) (s : State) :
    Makes b s (compareWith w d src op s) (src.reads (cells s) s) :=
  (Source.touch_makes hw s src).andThen (.setFlags _ _)

theorem modify_makes (hw : w.Covers cells) (dst : RegMem) (op : BitVec n → BitVec n × FlagUpdate) (s : State) :
    Makes b s (modify w dst op s)
      ((dst.place s).accesses (.read .data) (cells s) ++ (dst.place s).accesses (.write .data) (cells s)) :=
  ((Place.touch_makes hw s _).put hw _ _).andThen (.setFlags _ _)

theorem inspect_makes (hw : w.Covers cells) (dst : RegMem) (op : BitVec n → FlagUpdate) (s : State) :
    Makes b s (inspect w dst op s) ((dst.place s).accesses (.read .data) (cells s)) :=
  (Place.touch_makes hw s _).andThen (.setFlags _ _)

theorem modifyReg_makes (hw : w.Covers cells) (d : Reg) (op : BitVec n → BitVec n × FlagUpdate) (s : State) :
    Makes b s (modifyReg w d op s) [] :=
  (hw.setReg s d _).andThen (.setFlags _ _)

theorem modifyRegDraw_makes (hw : w.Covers cells) (d : Reg) (op : Draw → BitVec n → BitVec n × FlagUpdate)
    (s : State) : Makes b s (modifyRegDraw w d op s) [] :=
  (modifyReg_makes hw d _ s).andThen (.drawn _)

theorem exchange_makes (hw : w.Covers cells) (d : Reg) (src : RegMem) (s : State) :
    Makes b s (exchange w d src s)
      ((src.place s).accesses (.read .data) (cells s) ++ (src.place s).accesses (.write .data) (cells s)) :=
  ((Place.touch_makes hw s _).put hw _ _).andThen (hw.setReg _ d _)

theorem moveBlock_makes (hw : w.Covers cells) (k : Word) (d p r : Reg) (s : State) :
    Makes b s (moveBlock w k d p r s) (accesses (.read .data) (cells s (s.pointer p)) ++
      accesses (.write .data) (cells s (s.pointer d))) :=
  ((((hw.touch s _).store hw _ _).andThen (.stepPointer _ d k)).andThen (.stepPointer _ p k)).andThen (.countDown _ r)

theorem compareBlock_makes (hw : w.Covers cells) (k : Word) (d p r : Reg) (c : CondCode) (s : State) :
    Makes b s (compareBlock w k d p r c s) (accesses (.read .data) (cells s (s.pointer p))) :=
  ((((hw.touch s _).andThen (.stepPointer _ p k)).andThen (.countDown _ r)).andThen (.setFlags _ _)).andThen (.drawn _)

theorem compareStrings_makes (hw : w.Covers cells) (k : Word) (d p r : Reg) (c : CondCode) (s : State) :
    Makes b s (compareStrings w k d p r c s)
      (accesses (.read .data) (cells s (s.pointer d) ++ cells s (s.pointer p))) := by
  rw [accesses_append]
  exact ((((((hw.touch s _).touch hw _).andThen (.stepPointer _ d k)).andThen (.stepPointer _ p k)).andThen
    (.countDown _ r)).andThen (.setFlags _ _)).andThen (.drawn _)

/-- R434: the entry of a byte in a table. -/
theorem State.tableEntry_eq (s : State) (p : Reg) (v : Byte) :
    s.tableEntry p v = s.addrAdd (s.pointer p) (BitVec.ofNat 16 v.toNat) := by
  rw [State.tableEntry, BitVec.ofNat_toNat]

theorem touchEntry_makes (s : State) (a : Addr) (p : Reg) :
    Makes b s (s.touchEntry a p) (accesses (.read .data) (s.byteCells a ++
      s.byteCells (s.addrAdd (s.pointer p) (BitVec.ofNat 16 (s.readByte .data a).toNat)))) := by
  rw [accesses_append, ← State.tableEntry_eq]
  exact (byteW_covers.touch s a).touch byteW_covers _

theorem translate_makes (k : Word) (d p r : Reg) (s : State) :
    Makes b s (translate k d p r s) (accesses (.read .data) (s.byteCells (s.pointer d) ++
      s.byteCells (s.addrAdd (s.pointer p) (BitVec.ofNat 16 (s.readByte .data (s.pointer d)).toNat))) ++
      accesses (.write .data) (s.byteCells (s.pointer d))) :=
  (((((touchEntry_makes s _ p).store byteW_covers _ _).andThen (.stepPointer _ d k)).andThen (.countDown _ r)).andThen
    (.setFlags _ _)).andThen (.drawn _)

theorem translateTest_makes (k : Word) (d p r : Reg) (s : State) :
    Makes b s (translateTest k d p r s) (accesses (.read .data) (s.byteCells (s.pointer d) ++
      s.byteCells (s.addrAdd (s.pointer p) (BitVec.ofNat 16 (s.readByte .data (s.pointer d)).toNat)))) :=
  ((((touchEntry_makes s _ p).andThen (.setReg _ 1 _)).andThen (.setFlags _ _)).andThen (.stepPointer _ d k)).andThen
    (.countDown _ r)

theorem digitRotate_makes (l r : Reg) (f : Byte → Byte → Byte × Byte) (s : State) :
    Makes b s (digitRotate l r f s) [] :=
  (((Makes.setByteReg s r _).andThen (.setByteReg _ l _)).andThen (.setFlags _ _)).andThen (.drawn _)

theorem loadByteReg_makes (s : State) (d : Reg) (v : Byte) : Makes b s (s.loadByteReg d v) [] :=
  (Makes.setByteReg s d v).andThen (.setFlags _ _)

theorem loadByte_makes (s : State) (d : Reg) (a : Addr) :
    Makes b s (s.loadByte d a) (accesses (.read .data) (s.byteCells a)) :=
  (Makes.access s _ _).andThen (loadByteReg_makes _ d _)

theorem loadAddress_makes (s : State) (d : Reg) (a : Addr) : Makes b s (s.loadAddress d a) [] := by
  unfold State.loadAddress
  exact .ite (.setLongReg s d _) (.setReg s d _)

/-- R222: reading the source does not move the stack pointer. -/
theorem push_makes (src : Source Word) (p : Reg) (v : Word) (s : State) :
    Makes b s ((src.touch wordW s).pushWord p v)
      (src.reads s.wordCells s ++ accesses (.write .stack) (s.wordCells ((s.stepPointer p (-2)).pointer p))) := by
  have read : Makes b s (src.touch wordW s) _ := Source.touch_makes wordW_covers s src
  have top : ((src.touch wordW s).stepPointer p (-2)).pointer p = (s.stepPointer p (-2)).pointer p := by
    cases src <;> rfl
  have both := read.trans (.pushWord _ p v)
  rwa [top, wordCells_congr read.cfg] at both

/-- R223: the same of a long. -/
theorem pushl_makes (src : Place) (p : Reg) (v : Long) (s : State) :
    Makes b s ((src.touch longW s).pushLong p v) (src.accesses (.read .data) s.longCells ++
      accesses (.write .stack) (s.longCells ((s.stepPointer p (-4)).pointer p))) := by
  have read : Makes b s (src.touch longW s) _ := Place.touch_makes longW_covers s src
  have top : ((src.touch longW s).stepPointer p (-4)).pointer p = (s.stepPointer p (-4)).pointer p := by
    cases src <;> rfl
  have both := read.trans (.pushLong _ p v)
  rwa [top, longCells_congr read.cfg] at both

/-! #### Words at rising addresses (R218, R219) -/

/-- The bytes of `k` words at rising addresses from `a`. -/
def State.runCells (s : State) (a : Addr) (k : Nat) : List Nat :=
  (List.range k).flatMap fun j => s.wordCells (s.addrAdd a (BitVec.ofNat 16 (2 * j)))

theorem State.runCells_succ (s : State) (a : Addr) (k : Nat) :
    s.runCells a (k + 1) = s.wordCells a ++ s.runCells (s.addrAdd a 2) k := by
  have next : ∀ j : Nat, s.addrAdd a (BitVec.ofNat 16 (2 * (j + 1))) =
      s.addrAdd (s.addrAdd a 2) (BitVec.ofNat 16 (2 * j)) := fun j => by
    rw [State.addrAdd_addrAdd, Nat.mul_succ, BitVec.ofNat_add, BitVec.add_comm]
    rfl
  have first : s.wordCells (s.addrAdd a (BitVec.ofNat 16 (2 * 0))) = s.wordCells a := s.wordCells_addrAdd_zero a
  unfold State.runCells
  rw [List.range_succ_eq_map, List.flatMap_cons, List.flatMap_map, first]
  simp only [Nat.succ_eq_add_one, next]

theorem State.runCells_congr {s t : State} (h : t.cfg = s.cfg) (a : Addr) (k : Nat) :
    t.runCells a k = s.runCells a k := by
  simp only [State.runCells, wordCells_congr h, State.addrAdd_congr h]

theorem loadMultiple_makes (s : State) (a : Addr) (d : Reg) (k : Nat) :
    Makes b s (s.loadMultiple a d k) (accesses (.read .data) (s.runCells a k)) := by
  induction k generalizing s a d with
  | zero => exact .refl s
  | succ k ih =>
    have first : Makes b s (loadFrom wordW d a s) _ := loadFrom_makes wordW_covers d a s
    rw [State.runCells_succ, accesses_append, ← State.runCells_congr first.cfg]
    exact first.trans (ih _ _ _)

theorem storeMultiple_makes (s : State) (a : Addr) (r : Reg) (k : Nat) :
    Makes b s (s.storeMultiple a r k) (accesses (.write .data) (s.runCells a k)) := by
  induction k generalizing s a r with
  | zero => exact .refl s
  | succ k ih =>
    have first : Makes b s (s.writeWord .data a (s.reg r)) _ := .writeWord s .data a _
    rw [State.runCells_succ, accesses_append, ← State.runCells_congr first.cfg]
    exact first.trans (ih _ _ _)

/-! #### Input and output -/

/-- Transfers of one width are logged as inputs and outputs at their port (R92, R100). -/
structure IoWidth.AtPort {n : Nat} (io : IoWidth n) : Prop where
  input  : ∀ port mode v, ioAccess (io.inEvent port mode v) = (.input mode, port)
  output : ∀ port v mode, ioAccess (io.outEvent port v mode) = (.output mode, port)

theorem byteIo_atPort : byteIo.AtPort := ⟨fun _ _ _ => rfl, fun _ _ _ => rfl⟩
theorem wordIo_atPort : wordIo.AtPort := ⟨fun _ _ _ => rfl, fun _ _ _ => rfl⟩

variable {io : IoWidth n}

theorem inEvent_makes (hio : io.AtPort) (s : State) (port : Word) (mode : IoMode) (v : BitVec n) :
    Makes b s (s.ioEvent (io.inEvent port mode v)) (accesses (.input mode) [port.toNat]) := by
  have h : Makes b s (s.ioEvent (io.inEvent port mode v)) _ := .ioEvent s _
  rwa [hio.input] at h

theorem outEvent_makes (hio : io.AtPort) (s : State) (port : Word) (v : BitVec n) (mode : IoMode) :
    Makes b s (s.ioEvent (io.outEvent port v mode)) (accesses (.output mode) [port.toNat]) := by
  have h : Makes b s (s.ioEvent (io.outEvent port v mode)) _ := .ioEvent s _
  rwa [hio.output] at h

theorem inputTo_makes (hio : io.AtPort) (hw : w.Covers cells) (mode : IoMode) (d : Reg) (port : Word) (s : State) :
    Makes b s (inputTo io w mode d port s) (accesses (.input mode) [port.toNat]) :=
  (inEvent_makes hio s port mode _).andThen (hw.setReg _ d _)

theorem outputFrom_makes (hio : io.AtPort) (mode : IoMode) (port : Word) (r : Reg) (s : State) :
    Makes b s (outputFrom io w mode port r s) (accesses (.output mode) [port.toNat]) :=
  outEvent_makes hio s port _ mode

theorem countIo_makes (r : Reg) (z : Bool) (s : State) : Makes b s (countIo r z s) [] :=
  ((Makes.countDown s r).andThen (.setFlags _ _)).andThen (.drawn _)

theorem inputBlock_makes (hio : io.AtPort) (hw : w.Covers cells) (mode : IoMode) (k : Word) (d p r : Reg) (s : State) :
    Makes b s (inputBlock io w mode k d p r s) (accesses (.input mode) [(s.reg p).toNat] ++
      accesses (.write .data) (cells s (s.pointer d))) :=
  (((inEvent_makes hio s _ mode _).store hw _ _).andThen (.stepPointer _ d k)).andThen (countIo_makes r _ _)

theorem outputBlock_makes (hio : io.AtPort) (hw : w.Covers cells) (mode : IoMode) (k : Word) (d p r : Reg)
    (s : State) : Makes b s (outputBlock io w mode k d p r s) (accesses (.read .data) (cells s (s.pointer p)) ++
      accesses (.output mode) [(s.reg d).toNat]) :=
  (((hw.touch s _).trans (outEvent_makes hio _ _ _ mode)).andThen (.stepPointer _ p k)).andThen (countIo_makes r _ _)

end

section

variable {b : Bool} {s t : State}

/-! #### System instructions -/

theorem reservedControl_makes (s : State) : Makes b s s.reservedControl [] := by
  unfold State.reservedControl
  split
  · exact .refl s
  · exact .raise s (by decide)

theorem ldctlRead_makes (s : State) (d : Reg) (k : BitVec 3) :
    Makes b s (match s.control k with
      | some v => s.setReg d v
      | none => s.reservedControl) [] := by
  split
  · exact .setReg s d _
  · exact reservedControl_makes s

theorem setControl_makes {k : BitVec 3} {v : Word} (h : s.setControl k v = some t) : Makes b s t [] := by
  unfold State.setControl at h
  split at h <;> cases h
  · exact .changeFcw s v
  all_goals exact .quiet rfl rfl

theorem ldctlWrite_makes (s : State) (k : BitVec 3) (v : Word) :
    Makes b s ((s.setControl k v).getD s.reservedControl) [] := by
  cases h : s.setControl k v with
  | none => exact reservedControl_makes s
  | some t => exact setControl_makes h

/-- R503: the words of a program status, in the layout of the mode. -/
theorem touchStatus_makes (s : State) (a : Addr) :
    Makes b s (s.touchStatus a) (accesses (.read .data) (if s.segmented
      then s.wordCells (s.addrAdd a 2) ++ s.wordCells (s.addrAdd a 4) ++ s.wordCells (s.addrAdd a 6)
      else s.wordCells a ++ s.wordCells (s.addrAdd a 2))) := by
  unfold State.touchStatus
  split
  · rw [accesses_append, accesses_append]
    exact ((wordW_covers.touch s _).touch wordW_covers _).touch wordW_covers _
  · rw [accesses_append]
    exact (wordW_covers.touch s _).touch wordW_covers _

/-- R514: the tag, FCW and PC are popped one after the other. -/
theorem returnFromException_makes (s : State) :
    Makes true s s.returnFromException (accesses (.read .stack) (s.wordCells (s.pointer s.spReg) ++
      s.wordCells ((s.stepPointer s.spReg 2).pointer s.spReg) ++
      (if s.cfg.variant = .z8001 then s.longCells ((s.stepPointer s.spReg 4).pointer s.spReg)
       else s.wordCells ((s.stepPointer s.spReg 4).pointer s.spReg)))) := by
  have two : Makes true s ((s.dropWord s.spReg).dropWord s.spReg) (accesses (.read .stack)
      (s.wordCells (s.pointer s.spReg)) ++ accesses (.read .stack)
        (s.wordCells ((s.stepPointer s.spReg 2).pointer s.spReg))) := (Makes.dropWord s _).trans (.dropWord _ _)
  have third : (((s.dropWord s.spReg).dropWord s.spReg).pointer s.spReg) =
      (s.stepPointer s.spReg 4).pointer s.spReg := by
    have moved : (((s.dropWord s.spReg).dropWord s.spReg).pointer s.spReg) =
        ((s.stepPointer s.spReg 2).stepPointer s.spReg 2).pointer s.spReg := rfl
    rw [moved, State.stepPointer_stepPointer]
    rfl
  rw [accesses_append, accesses_append, ← third]
  unfold State.returnFromException
  cases s.cfg.variant with
  | z8001 => exact ((two.trans (.dropLong _ _)).andThen (.changeFcw _ _)).andThen (.setPc _ _)
  | z8002 => exact ((two.trans (.dropWord _ _)).andThen (.changeFcw _ _)).andThen (.setPc _ _)

/-! #### Every instruction -/

/-- The instructions whose operand is relative to `pc` (R148). -/
def pcRelative : Instr → Bool
  | .ldrbLoad _ _ | .ldrLoad _ _ | .ldrlLoad _ _ | .ldrbStore _ _ | .ldrStore _ _ | .ldrlStore _ _ => true
  | _ => false

@[simp] theorem State.byteCells_fetchExt (k : Nat) : (s.fetchExt k).byteCells = s.byteCells :=
  byteCells_congr (s.fetchExt_cfg k)

@[simp] theorem State.wordCells_fetchExt (k : Nat) : (s.fetchExt k).wordCells = s.wordCells :=
  wordCells_congr (s.fetchExt_cfg k)

@[simp] theorem State.longCells_fetchExt (k : Nat) : (s.fetchExt k).longCells = s.longCells :=
  longCells_congr (s.fetchExt_cfg k)

@[simp] theorem State.fetchExt_stepPointer_pointer (k : Nat) (p : Reg) (j : Word) :
    ((s.fetchExt k).stepPointer p j).pointer p = (s.stepPointer p j).pointer p := by
  rw [State.pointer_stepPointer, State.pointer_stepPointer, State.fetchExt_addrAdd, State.fetchExt_pointer]

@[simp] theorem Source.reads_fetchExt {α : Type} (k : Nat) (cells : Addr → List Nat) (src : Source α) :
    src.reads cells (s.fetchExt k) = src.reads cells s := by
  cases src <;> simp [Source.reads]

/-- Every other operand is where it was before the instruction's words were fetched. -/
theorem operandAccesses_fetchExt (s : State) (k : Nat) {i : Instr} (h : pcRelative i = false) :
    i.operandAccesses (s.fetchExt k) = i.operandAccesses s := by
  cases i
  case ldrbLoad | ldrLoad | ldrlLoad | ldrbStore | ldrStore | ldrlStore => cases h
  all_goals simp [Instr.operandAccesses]

end

section

variable {s : State} {P : State → Prop} {o : Out}

theorem Yields.next {t : State} (h : P t) : Yields P (.next t) := by
  rintro _ ⟨⟩
  exact h

theorem Yields.priv_of_system (hs : s.system = true) (h : Yields P o) : Yields P (Machine.priv s o) := by
  rwa [priv_of s o hs]

/-- The instructions with an operand relative to `pc` (R148), which is at the next instruction when they compute it. -/
theorem exec_makes_of_pcRelative (i : Instr) (s : State) (h : pcRelative i = true) :
    Yields (Makes i.branches (s.fetchExt i.extWords) · (i.operandAccesses s)) (exec i s) := by
  have ea (disp : Word) : s.addrAdd s.pc (2 + disp) = (s.fetchExt 1).relative disp := (s.fetchExt_relative disp).symm
  cases i with
  | ldrbLoad d disp =>
    simp only [Instr.operandAccesses, ea, ← s.byteCells_fetchExt 1]
    exact .next (loadByte_makes _ d _)
  | ldrLoad d disp =>
    simp only [Instr.operandAccesses, ea, ← s.wordCells_fetchExt 1]
    exact .next (loadFrom_makes wordW_covers d _ _)
  | ldrlLoad d disp =>
    simp only [Instr.operandAccesses, ea, ← s.longCells_fetchExt 1]
    exact .need (.next (loadFrom_makes longW_covers d _ _))
  | ldrbStore disp r =>
    simp only [Instr.operandAccesses, ea, ← s.byteCells_fetchExt 1]
    exact .next (.writeByte _ .data _ _)
  | ldrStore disp r =>
    simp only [Instr.operandAccesses, ea, ← s.wordCells_fetchExt 1]
    exact .next (.writeWord _ .data _ _)
  | ldrlStore disp r =>
    simp only [Instr.operandAccesses, ea, ← s.longCells_fetchExt 1]
    exact .need (.next (.writeLong _ .data _ _))
  | _ => exact Bool.noConfusion h

/-- Every other instruction, in the mode it may run in. -/
theorem exec_makes_of_not_pcRelative (i : Instr) (s : State) (hr : pcRelative i = false)
    (hp : i.privileged = true → s.system = true) :
    Yields (Makes i.branches (s.fetchExt i.extWords) · (i.operandAccesses (s.fetchExt i.extWords))) (exec i s) := by
  cases i with
  | add d src | sub d src | and d src | or d src | xor d src =>
    exact .need (.next (binary_makes wordW_covers d src _ _))
  | addb d src | subb d src | andb d src | orb d src | xorb d src =>
    exact .need (.next (binary_makes byteW_covers d src _ _))
  | addl d src | subl d src => exact .need (.next (binary_makes longW_covers d src _ _))
  | adc d r | sbc d r => exact .next (binary_makes wordW_covers d (.reg r) _ _)
  | adcb d r | sbcb d r => exact .next (binary_makes byteW_covers d (.reg r) _ _)
  | cp d src => exact .need (.next (compareWith_makes wordW_covers d src _ _))
  | cpb d src => exact .need (.next (compareWith_makes byteW_covers d src _ _))
  | cpl d src => exact .need (.next (compareWith_makes longW_covers d src _ _))
  | cpImm dst _ => exact .need (.next (inspect_makes wordW_covers (.mem dst) _ _))
  | cpbImm dst _ => exact .need (.next (inspect_makes byteW_covers (.mem dst) _ _))
  | test dst | bit dst _ => exact .need (.next (inspect_makes wordW_covers dst _ _))
  | testb dst | bitb dst _ => exact .need (.next (inspect_makes byteW_covers dst _ _))
  | testl dst => exact .need (.next (inspect_makes longW_covers dst _ _))
  | neg dst | com dst | tset dst | inc dst _ | dec dst _ | set dst _ | res dst _ =>
    exact .need (.next (modify_makes wordW_covers dst _ _))
  | negb dst | comb dst | tsetb dst | incb dst _ | decb dst _ | setb dst _ | resb dst _ =>
    exact .need (.next (modify_makes byteW_covers dst _ _))
  | mult d src =>
    exact .need (.next (((Source.touch_makes wordW_covers _ src).andThen (.setLongReg _ d _)).andThen (.setFlags _ _)))
  | multl d src =>
    exact .need (.need (.next
      (((Source.touch_makes longW_covers _ src).andThen (.setQuadReg _ d _)).andThen (.setFlags _ _))))
  | div d src =>
    exact .need (.next (((((Source.touch_makes wordW_covers _ src).andThen (.setLongReg _ d _)).andThen
      (.setFlags _ _)).andThen (.drawn _)).andThen (.divisionTrap _ _)))
  | divl d src =>
    exact .need (.need (.next (((((Source.touch_makes longW_covers _ src).andThen (.setQuadReg _ d _)).andThen
      (.setFlags _ _)).andThen (.drawn _)).andThen (.divisionTrap _ _))))
  | extsb d => exact .next (.setReg _ d _)
  | exts d => exact .need (.next (.setReg _ d _))
  | extsl d => exact .need (.next (.setLongReg _ d _))
  | dab d => exact .next ((Makes.setByteReg _ d _).andThen (.setFlags _ _))
  | bitDyn _ _ | bitbDyn _ _ => exact .next (.setFlags _ _)
  | setDyn d _ | resDyn d _ => exact .next (modifyReg_makes wordW_covers d _ _)
  | setbDyn d _ | resbDyn d _ => exact .next (modifyReg_makes byteW_covers d _ _)
  | tcc _ d => exact .next (.setReg _ d _)
  | tccb _ d => exact .next (.setByteReg _ d _)
  | rl d _ | rlc d _ | rr d _ | rrc d _ | sla d _ | sll d _ | sda d _ | sdl d _ =>
    exact .next (modifyRegDraw_makes wordW_covers d _ _)
  | rlb d _ | rlcb d _ | rrb d _ | rrcb d _ | slab d _ | sllb d _ | sdab d _ | sdlb d _ =>
    exact .next (modifyRegDraw_makes byteW_covers d _ _)
  | slal d _ | slll d _ | sdal d _ | sdll d _ => exact .need (.next (modifyRegDraw_makes longW_covers d _ _))
  | rldb l r | rrdb l r => exact .next (digitRotate_makes l r _ _)
  | ldi d p r | ldd d p r => exact .need (.next (moveBlock_makes wordW_covers _ d p r _))
  | ldib d p r | lddb d p r => exact .need (.next (moveBlock_makes byteW_covers _ d p r _))
  | ldir d p r | lddr d p r =>
    exact .need (.next ((moveBlock_makes wordW_covers _ d p r _).andThen (.againIf _ _)))
  | ldirb d p r | lddrb d p r =>
    exact .need (.next ((moveBlock_makes byteW_covers _ d p r _).andThen (.againIf _ _)))
  | cpi d p r c | cpd d p r c => exact .need (.next (compareBlock_makes wordW_covers _ d p r c _))
  | cpib d p r c | cpdb d p r c => exact .need (.next (compareBlock_makes byteW_covers _ d p r c _))
  | cpir d p r c | cpdr d p r c =>
    exact .need (.next ((compareBlock_makes wordW_covers _ d p r c _).andThen (.againIf _ _)))
  | cpirb d p r c | cpdrb d p r c =>
    exact .need (.next ((compareBlock_makes byteW_covers _ d p r c _).andThen (.againIf _ _)))
  | cpsi d p r c | cpsd d p r c => exact .need (.next (compareStrings_makes wordW_covers _ d p r c _))
  | cpsib d p r c | cpsdb d p r c => exact .need (.next (compareStrings_makes byteW_covers _ d p r c _))
  | cpsir d p r c | cpsdr d p r c =>
    exact .need (.next ((compareStrings_makes wordW_covers _ d p r c _).andThen (.againIf _ _)))
  | cpsirb d p r c | cpsdrb d p r c =>
    exact .need (.next ((compareStrings_makes byteW_covers _ d p r c _).andThen (.againIf _ _)))
  | trib d p r | trdb d p r => exact .need (.next (translate_makes _ d p r _))
  | trirb d p r | trdrb d p r => exact .need (.next ((translate_makes _ d p r _).andThen (.againIf _ _)))
  | trtib d p r | trtdb d p r => exact .need (.next (translateTest_makes _ d p r _))
  | trtirb d p r | trtdrb d p r => exact .need (.next ((translateTest_makes _ d p r _).andThen (.againIf _ _)))
  | jp c dst => exact .need (.next (.ite (.setPc _ _) (.refl _)))
  | jr c _ => exact .next (.ite (.setPc _ _) (.refl _))
  | djnz d _ => exact .next ((Makes.setReg _ d _).andThen (.ite (.refl _) (.setPc _ _)))
  | dbjnz d _ => exact .next ((Makes.setByteReg _ d _).andThen (.ite (.refl _) (.setPc _ _)))
  | call dst => exact .need (.next (.callTo _ _))
  | calr _ => exact .next (.callTo _ _)
  | ret c => exact .next (.ret _ c)
  | sc _ => exact .next (.raise _ (by decide))
  | ldR d _ | ldIM d _ | ldk d _ => exact .next (.setReg _ d _)
  | ldMem d src => exact .need (.next (loadFrom_makes wordW_covers d _ _))
  | ldTo dst _ | ldImm dst _ => exact .need (.next (.writeWord _ .data _ _))
  | ldbR d _ | ldbIM d _ | ldbShort d _ => exact .next (loadByteReg_makes _ d _)
  | ldbMem d src => exact .need (.next (loadByte_makes _ d _))
  | ldbTo dst _ | ldbImm dst _ => exact .need (.next (.writeByte _ .data _ _))
  | ldlR d _ | ldlIM d _ => exact .need (.next (.setLongReg _ d _))
  | ldlMem d src => exact .need (.next (loadFrom_makes longW_covers d _ _))
  | ldlTo dst _ => exact .need (.next (.writeLong _ .data _ _))
  | lda d _ | ldar d _ => exact .need (.next (loadAddress_makes _ d _))
  | ldm d _ _ => exact .need (.next (loadMultiple_makes _ _ d _))
  | ldmTo _ r _ => exact .need (.next (storeMultiple_makes _ _ r _))
  | ex d src => exact .need (.next (exchange_makes wordW_covers d src _))
  | exb d src => exact .need (.next (exchange_makes byteW_covers d src _))
  | push d src => exact .need (.next (push_makes src d _ _))
  | pushl d src => exact .need (.next (pushl_makes _ d _ _))
  | pop _ p => exact .need (.next ((Makes.dropWord _ p).put wordW_covers _ _))
  | popl _ p => exact .need (.next ((Makes.dropLong _ p).put longW_covers _ _))
  | clr _ => exact .need (.next (Place.put_makes wordW_covers _ _ _))
  | clrb _ => exact .need (.next (Place.put_makes byteW_covers _ _ _))
  | ldctlbRead d => exact .next (.setByteReg _ d _)
  | ldctlbWrite _ | setflg _ | resflg _ | comflg _ => exact .next (.quiet rfl rfl)
  | nop => exact .next (.refl _)
  | ext0E _ | ext0F _ | ext4E _ | ext4F _ | ext8E _ | ext8F _ | undefined _ => exact .next (.raise _ (by decide))
  | inw d _ | sin d _ => exact .priv_of_system (hp rfl) (.next (inputTo_makes wordIo_atPort wordW_covers _ d _ _))
  | inb d _ | sinb d _ => exact .priv_of_system (hp rfl) (.next (inputTo_makes byteIo_atPort byteW_covers _ d _ _))
  | outw _ r | sout _ r => exact .priv_of_system (hp rfl) (.next (outputFrom_makes wordIo_atPort _ _ r _))
  | outb _ r | soutb _ r => exact .priv_of_system (hp rfl) (.next (outputFrom_makes byteIo_atPort _ _ r _))
  | ini d p r | ind d p r | sini d p r | sind d p r =>
    exact .priv_of_system (hp rfl) (.need (.next (inputBlock_makes wordIo_atPort wordW_covers _ _ d p r _)))
  | inib d p r | indb d p r | sinib d p r | sindb d p r =>
    exact .priv_of_system (hp rfl) (.need (.next (inputBlock_makes byteIo_atPort byteW_covers _ _ d p r _)))
  | inir d p r | indr d p r | sinir d p r | sindr d p r =>
    exact .priv_of_system (hp rfl) (.need (.next
      ((inputBlock_makes wordIo_atPort wordW_covers _ _ d p r _).andThen (.againIf _ _))))
  | inirb d p r | indrb d p r | sinirb d p r | sindrb d p r =>
    exact .priv_of_system (hp rfl) (.need (.next
      ((inputBlock_makes byteIo_atPort byteW_covers _ _ d p r _).andThen (.againIf _ _))))
  | outi d p r | outd d p r | souti d p r | soutd d p r =>
    exact .priv_of_system (hp rfl) (.need (.next (outputBlock_makes wordIo_atPort wordW_covers _ _ d p r _)))
  | outib d p r | outdb d p r | soutib d p r | soutdb d p r =>
    exact .priv_of_system (hp rfl) (.need (.next (outputBlock_makes byteIo_atPort byteW_covers _ _ d p r _)))
  | otir d p r | otdr d p r | sotir d p r | sotdr d p r =>
    exact .priv_of_system (hp rfl) (.need (.next
      ((outputBlock_makes wordIo_atPort wordW_covers _ _ d p r _).andThen (.againIf _ _))))
  | otirb d p r | otdrb d p r | sotirb d p r | sotdrb d p r =>
    exact .priv_of_system (hp rfl) (.need (.next
      ((outputBlock_makes byteIo_atPort byteW_covers _ _ d p r _).andThen (.againIf _ _))))
  | ldctlRead d k => exact .priv_of_system (hp rfl) (.next (ldctlRead_makes _ d k))
  | ldctlWrite _ k => exact .priv_of_system (hp rfl) (.next (ldctlWrite_makes _ k _))
  | ldps _ =>
    exact .priv_of_system (hp rfl) (.need (.next
      (((touchStatus_makes _ _).andThen (.changeFcw _ _)).andThen (.setPc _ _))))
  | di _ _ | ei _ _ | halt | mset | mres | mreq _ => exact .priv_of_system (hp rfl) (.next (.quiet rfl rfl))
  | mbit => exact .priv_of_system (hp rfl) (.next (.setFlags _ _))
  | iret => exact .priv_of_system (hp rfl) (.next (returnFromException_makes _))
  | _ => exact Bool.noConfusion hr

/-- Once its words are fetched, an instruction makes the accesses of its rule and no other. -/
theorem exec_makes (i : Instr) (s : State) (hp : i.privileged = true → s.system = true) :
    Yields (Makes i.branches (s.fetchExt i.extWords) · (i.operandAccesses s)) (exec i s) := by
  cases hr : pcRelative i with
  | true => exact exec_makes_of_pcRelative i s hr
  | false =>
    rw [← operandAccesses_fetchExt s i.extWords hr]
    exact exec_makes_of_not_pcRelative i s hr hp

/-- An instruction that may run has a next state. -/
theorem exec_completes {i : Instr} {s : State} (h : i.Runs s) : ∃ t, exec i s = .next t := by
  obtain ⟨hr, hf⟩ := onlyBadRegisterFieldsFault i s
  cases ho : exec i s with
  | next t => exact ⟨t, rfl⟩
  | fault f =>
    have illegal := (hf.1 ⟨f, ho⟩).1
    rw [h.1] at illegal
    cases illegal
  | refused r => exact absurd ho (hr r)

/-- Settles O41: what follows the fetch of an instruction's words is `exec_makes`. -/
theorem everyInstructionCompletes : Obligations.EveryInstructionCompletes := by
  have runs : ∀ (i : Instr) (s : State), i.Runs s →
      ∃ t, exec i s = .next t ∧ Makes i.branches (s.fetchExt i.extWords) t (i.operandAccesses s) := fun i s h => by
    obtain ⟨t, ht⟩ := exec_completes h
    exact ⟨t, ht, exec_makes i s h.2 t ht⟩
  refine ⟨fun i s h => ?_, fun i s h hb => ?_, fun i s h => ?_⟩ <;> obtain ⟨t, ht, makes⟩ := runs i s h <;>
    refine ⟨t, ht, ?_⟩
  · obtain ⟨valid, kept⟩ := s.fetchExt_slots i.extWords
    refine ⟨⟨makes.opValid.trans valid, fun h0 => ?_⟩, makes.cfg.trans (s.fetchExt_cfg _),
      makes.ppc.trans (s.fetchExt_ppc _)⟩
    rw [makes.op, kept h0]
  · exact (makes.pc hb).trans (s.fetchExt_pc _)
  · exact ⟨makes.guards.trans (s.fetchExt_guards _), (s.fetchExt_segtrap _).trans (s.fetchExt_guards _) makes.segtrap⟩

end

end Sys2Proof.Machine

namespace Sys2Proof.Machine

open Sys2Proof

section

/-! ### The condition codes (R160) -/

/-- Bit 3 of a code inverts the condition that its low three bits name. -/
theorem cc_complement (c : CondCode) (f : Word) : cc (c ^^^ 8) f = !cc c f := by
  have low : (c ^^^ 8).extractLsb' 0 3 = c.extractLsb' 0 3 := by
    revert c
    decide
  have top : (c ^^^ 8).getLsbD 3 = !c.getLsbD 3 := by
    revert c
    decide
  unfold cc
  rw [low, top]
  exact Bool.xor_not ..

theorem cc_table (f : Word) :
    cc 0 f = false ∧ cc 1 f = (flagS f ^^ flagPV f) ∧ cc 2 f = (flagZ f || (flagS f ^^ flagPV f)) ∧
    cc 3 f = (flagC f || flagZ f) ∧ cc 4 f = flagPV f ∧ cc 5 f = flagS f ∧ cc 6 f = flagZ f ∧ cc 7 f = flagC f :=
  ⟨rfl, Bool.xor_false _, Bool.xor_false _, Bool.xor_false _, Bool.xor_false _, Bool.xor_false _, Bool.xor_false _,
    Bool.xor_false _⟩

/-! ### What they say after a comparison (R250) -/

variable {n : Nat} {a b : BitVec n} {f : Word}

theorem ssubOverflow_iff : a.ssubOverflow b = true ↔ ¬ Fits n (a.toInt - b.toInt) := by
  simp only [BitVec.ssubOverflow, Fits, Bool.or_eq_true, decide_eq_true_eq]
  omega

/-- The sign of a difference orders the operands if the difference fits, and the other way round if not. -/
theorem msb_sub_iff : (a - b).msb = true ↔ (a.toInt < b.toInt ↔ Fits n (a.toInt - b.toInt)) := by
  by_cases overflow : a.ssubOverflow b = true
  · have overflows := ssubOverflow_iff.1 overflow
    rw [BitVec.ssubOverflow_eq] at overflow
    simp only [BitVec.msb_eq_toInt (x := a), BitVec.msb_eq_toInt (x := b)] at overflow
    cases hr : (a - b).msb <;> simp [hr] at overflow <;> simp [overflows] <;> omega
  · have fits : Fits n (a.toInt - b.toInt) := not_not.1 fun h => overflow (ssubOverflow_iff.2 h)
    rw [BitVec.msb_eq_toInt, decide_eq_true_eq, BitVec.toInt_sub_of_not_ssubOverflow overflow, iff_true_right fits]
    omega

/-- C, Z, S and PV after a comparison of `a` with `b`. -/
theorem SubFlags.compare (h : SubFlags a b false f) :
    (flagC f = true ↔ a.toNat < b.toNat) ∧ (flagZ f = true ↔ a = b) ∧
    (flagPV f = true ↔ ¬ Fits n (a.toInt - b.toInt)) ∧ ((flagS f ^^ flagPV f) = true ↔ a.toInt < b.toInt) := by
  obtain ⟨⟨hz, hs⟩, hc, hpv⟩ := h
  have noBorrow : BitVec.ofNat n false.toNat = 0#n := rfl
  rw [noBorrow, BitVec.sub_zero] at hz hs
  have zero : flagZ f = true ↔ a = b := by
    rw [hz, decide_eq_true_eq]
    exact sub_eq_zero
  have overflow : flagPV f = true ↔ ¬ Fits n (a.toInt - b.toInt) := by simpa using hpv
  refine ⟨by simpa using hc, zero, overflow, ?_⟩
  have sign : flagS f = true ↔ (a.toInt < b.toInt ↔ Fits n (a.toInt - b.toInt)) := hs ▸ msb_sub_iff
  rw [Bool.xor_iff_ne, ne_eq, Bool.eq_iff_iff, sign, overflow]
  tauto

/-- Settles O13. -/
theorem conditionCodesOrderOperands : Obligations.ConditionCodesOrderOperands := by
  refine ⟨cc_complement, cc_table, fun n a b f _ h => ?_⟩
  obtain ⟨-, less, lessEq, lowerSame, overflow, -, equal, carry⟩ := cc_table f
  obtain ⟨hc, hz, hpv, hs⟩ := h.compare
  have signedEq : a.toInt = b.toInt ↔ a = b := BitVec.toInt_inj
  have unsignedEq : a.toNat = b.toNat ↔ a = b := BitVec.toNat_inj
  rw [less, lessEq, lowerSame, overflow, equal, carry, Bool.or_eq_true, Bool.or_eq_true, hc, hz, hpv, hs]
  refine ⟨Iff.rfl, ?_, ?_, Iff.rfl, Iff.rfl, Iff.rfl⟩
  · rw [← signedEq]
    omega
  · rw [← unsignedEq]
    omega

end

end Sys2Proof.Machine

namespace Sys2Proof.Machine

open Sys2Proof

section

variable {s : State} {v flags : Word}

/-- Only FCW is written, and of it the bits `flags` only. -/
theorem Frame.of_fcw (h : v &&& ~~~flags = s.fcw &&& ~~~flags) : Frame s { s with fcw := v } [] [] flags s.rest :=
  ⟨fun _ _ => rfl, fun _ _ => rfl, h, .of_eq rfl⟩

theorem exec_ldctlbRead (s : State) (r : Reg) :
    exec (.ldctlbRead r) s = .next (s.setByteReg r (lowByte s.fcw)) := rfl

theorem exec_ldctlbWrite (s : State) (r : Reg) : exec (.ldctlbWrite r) s =
    .next { s with fcw := s.fcw.extractLsb' 8 8 ++ ((s.byteReg r).extractLsb' 2 6 ++ 0#2) } := rfl

theorem exec_setflg (s : State) (m : BitVec 4) :
    exec (.setflg m) s = .next { s with fcw := s.fcw ||| flagMask m } := rfl

theorem exec_resflg (s : State) (m : BitVec 4) :
    exec (.resflg m) s = .next { s with fcw := s.fcw &&& ~~~(flagMask m) } := rfl

theorem exec_comflg (s : State) (m : BitVec 4) :
    exec (.comflg m) s = .next { s with fcw := s.fcw ^^^ flagMask m } := rfl

theorem ldctlbRead_reads (s : State) (r : Reg) : ∃ t, exec (.ldctlbRead r) s = .next t ∧
    t.byteReg r = lowByte s.fcw ∧ ByteFrame s t (.reg r) 0 s.rest :=
  ⟨_, exec_ldctlbRead s r, s.byteReg_setByteReg r _, (Frame.fetchExt s 0 _ [] 0).setByteReg r _ (List.mem_singleton_self _),
    fun _ hj => s.byteReg_setByteReg_other hj _⟩

theorem ldctlbWrite_writes (s : State) (r : Reg) : ∃ t, exec (.ldctlbWrite r) s = .next t ∧
    (∀ j, j < 8 → t.fcw.getLsbD j = (decide (2 ≤ j) && (s.byteReg r).getLsbD j)) ∧ Frame s t [] [] 0x00FF s.rest := by
  refine ⟨_, exec_ldctlbWrite s r, fun j hj => ?_, .of_fcw (and_congr_of_bits fun j hj high => ?_)⟩
  · refine (getLsbD_lowByteWritten s.fcw _ (by omega)).trans ?_
    by_cases h2 : j < 2
    · simp [h2]
    · rw [if_neg h2, if_pos hj, BitVec.getLsbD_extractLsb', decide_eq_true (by omega : j - 2 < 6),
        decide_eq_true (by omega : 2 ≤ j), show 2 + (j - 2) = j by omega]
  · have above : ∀ j < 16, (~~~(0x00FF : Word)).getLsbD j = true → 8 ≤ j := by decide
    have := above j hj high
    exact (getLsbD_lowByteWritten s.fcw _ hj).trans (by rw [if_neg (by omega), if_neg (by omega)])

/-- R161: bits 3 to 0 of a flag mask are C, Z, S and PV. -/
theorem flagMask_flags (m : BitVec 4) :
    flagC (flagMask m) = m.getLsbD 3 ∧ flagZ (flagMask m) = m.getLsbD 2 ∧ flagS (flagMask m) = m.getLsbD 1 ∧
    flagPV (flagMask m) = m.getLsbD 0 := by
  revert m
  decide

theorem flagMask_only (m : BitVec 4) : flagMask m &&& ~~~flagsCZSP = 0 := by
  revert m
  decide

/-- An instruction that combines FCW with its mask, bit by bit, does so to the four flags and to no other bit. -/
theorem flags_combined {i : Instr} (g : Bool → Bool → Bool) (m : BitVec 4)
    (run : exec i s = .next { s with fcw := v })
    (bits : ∀ j < 16, v.getLsbD j = g ((flagMask m).getLsbD j) (s.fcw.getLsbD j))
    (keep : v &&& ~~~flagsCZSP = s.fcw &&& ~~~flagsCZSP) :
    ∃ t, exec i s = .next t ∧
      flagC t.fcw = g (m.getLsbD 3) (flagC s.fcw) ∧ flagZ t.fcw = g (m.getLsbD 2) (flagZ s.fcw) ∧
      flagS t.fcw = g (m.getLsbD 1) (flagS s.fcw) ∧ flagPV t.fcw = g (m.getLsbD 0) (flagPV s.fcw) ∧
      Frame s t [] [] flagsCZSP s.rest := by
  obtain ⟨hc, hz, hs, hpv⟩ := flagMask_flags m
  rw [← hc, ← hz, ← hs, ← hpv]
  exact ⟨_, run, bits 7 (by decide), bits 6 (by decide), bits 5 (by decide), bits 4 (by decide), .of_fcw keep⟩

/-- Settles O38. -/
theorem flagInstructionsWriteFlagsOnly : Obligations.FlagInstructionsWriteFlagsOnly := by
  refine ⟨fun s r => ⟨ldctlbRead_reads s r, ldctlbWrite_writes s r⟩, fun s m => ⟨?_, ?_, ?_⟩⟩
  · refine flags_combined (fun b f => b || f) m (exec_setflg s m) (fun j _ => ?_) (or_and_of_disjoint (flagMask_only m) _)
    rw [BitVec.getLsbD_or, Bool.or_comm]
  · refine flags_combined (fun b f => !b && f) m (exec_resflg s m) (fun j hj => ?_) (andNot_and_of_disjoint (flagMask_only m) _)
    rw [BitVec.getLsbD_and, BitVec.getLsbD_not, decide_eq_true hj, Bool.true_and, Bool.and_comm]
  · refine flags_combined (fun b f => b ^^ f) m (exec_comflg s m) (fun j _ => ?_) (xor_and_of_disjoint (flagMask_only m) _)
    rw [BitVec.getLsbD_xor, Bool.xor_comm]

end

end Sys2Proof.Machine

namespace Sys2Proof

section

variable {seg : Bool} {a b h l : BitVec 4} {w0 w1 w2 w3 : Word} {ws rest : List Word} {o : BitVec 6} {m : MemOp}
  {ad : AddrOp}

/-! ### Opcode words and their nibbles (R132, R135)

The decoder looks at the four nibbles of an opcode word. On a word that the encoder writes as four nibbles these are
known, and what is left is the row of the decoder's table: `decodeNibbles`, which evaluates. -/

theorem op_toNat (a b h l : BitVec 4) :
    (op a b h l).toNat = ((a.toNat * 16 + b.toNat) * 16 + h.toNat) * 16 + l.toNat := by
  have two : (a ++ b : Byte).toNat = a.toNat * 16 + b.toNat := toNat_append a b rfl
  have three : (a ++ b ++ h : BitVec 12).toNat = (a ++ b : Byte).toNat * 16 + h.toNat := toNat_append _ h rfl
  have four : (op a b h l).toNat = (a ++ b ++ h : BitVec 12).toNat * 16 + l.toNat := toNat_append _ l rfl
  rw [four, three, two]

@[simp] theorem nib_op_3 (a b h l : BitVec 4) : nib (op a b h l) 3 = a := by
  apply BitVec.eq_of_toNat_eq
  rw [nib, BitVec.extractLsb'_toNat, op_toNat, Nat.shiftRight_eq_div_pow]
  omega

@[simp] theorem nib_op_2 (a b h l : BitVec 4) : nib (op a b h l) 2 = b := by
  apply BitVec.eq_of_toNat_eq
  rw [nib, BitVec.extractLsb'_toNat, op_toNat, Nat.shiftRight_eq_div_pow]
  omega

@[simp] theorem nib_op_1 (a b h l : BitVec 4) : nib (op a b h l) 1 = h := by
  apply BitVec.eq_of_toNat_eq
  rw [nib, BitVec.extractLsb'_toNat, op_toNat, Nat.shiftRight_eq_div_pow]
  omega

@[simp] theorem nib_op_0 (a b h l : BitVec 4) : nib (op a b h l) 0 = l := by
  apply BitVec.eq_of_toNat_eq
  rw [nib, BitVec.extractLsb'_toNat, op_toNat, Nat.shiftRight_eq_div_pow]
  omega

theorem op_nibs (w : Word) : op (nib w 3) (nib w 2) (nib w 1) (nib w 0) = w := by
  apply BitVec.eq_of_toNat_eq
  simp only [op_toNat, nib, BitVec.extractLsb'_toNat, Nat.shiftRight_eq_div_pow]
  omega

@[simp] theorem op_bit_3 (a b h l : BitVec 4) : (op a b h l)[3] = l[3] := BitVec.getElem_append ..

/-- `decode` on an opcode word `w0` of which the four nibbles are given. -/
def decodeNibbles (seg : Bool) (a b h l : BitVec 4) (w0 w1 w2 w3 : Word) : Instr :=
  if a = 0x0 then decodePage0 seg b h l w0 w1 w2 w3
  else if a = 0x1 then decodePage1 seg b h l w0 w1 w2 w3
  else if a = 0x2 then decodePage2 seg b h l w0 w1 w2 w3
  else if a = 0x3 then decodePage3 seg b h l w0 w1 w2 w3
  else if a = 0x4 then decodePage4 seg b h l w0 w1 w2 w3
  else if a = 0x5 then decodePage5 seg b h l w0 w1 w2 w3
  else if a = 0x6 then decodePage6 seg b h l w0 w1 w2 w3
  else if a = 0x7 then decodePage7 seg b h l w0 w1 w2 w3
  else if a = 0x8 then decodePage8 seg b h l w0 w1 w2 w3
  else if a = 0x9 then decodePage9 seg b h l w0 w1 w2 w3
  else if a = 0xA then decodePageA seg b h l w0 w1 w2 w3
  else if a = 0xB then decodePageB seg b h l w0 w1 w2 w3
  else if a = 0xC then decodePageC seg b h l w0 w1 w2 w3
  else if a = 0xD then decodePageD seg b h l w0 w1 w2 w3
  else if a = 0xE then decodePageE seg b h l w0 w1 w2 w3
  else decodePageF seg b h l w0 w1 w2 w3

theorem decode_eq_decodeNibbles (seg : Bool) (w0 w1 w2 w3 : Word) :
    decode seg w0 w1 w2 w3 = decodeNibbles seg (nib w0 3) (nib w0 2) (nib w0 1) (nib w0 0) w0 w1 w2 w3 := rfl

theorem decodeWords_op : decodeWords seg (op a b h l :: ws) =
    decodeNibbles seg a b h l (op a b h l) (wordAt ws 0) (wordAt ws 1) (wordAt ws 2) := by
  rw [decodeWords, decode_eq_decodeNibbles]
  show decodeNibbles seg (nib (op a b h l) 3) (nib (op a b h l) 2) (nib (op a b h l) 1) (nib (op a b h l) 0) .. = _
  rw [nib_op_3, nib_op_2, nib_op_1, nib_op_0]
  rfl

theorem code_eq_op (mode : BitVec 2) (o : BitVec 6) (h l : BitVec 4) :
    code mode o h l = op (mode ++ o.extractLsb' 4 2) (o.extractLsb' 0 4) h l := by
  have split : mode ++ o = (mode ++ o.extractLsb' 4 2) ++ o.extractLsb' 0 4 := by
    revert mode o
    decide
  rw [code, split]
  rfl

/-- What the opcode word `w0` of the operation `o` with the mode bits `mode` decodes to before the words `ws`. -/
abbrev decodeCode (seg : Bool) (mode : BitVec 2) (o : BitVec 6) (h l : BitVec 4) (w0 : Word) (ws : List Word) : Instr :=
  decodeNibbles seg (mode ++ o.extractLsb' 4 2) (o.extractLsb' 0 4) h l w0 (wordAt ws 0) (wordAt ws 1) (wordAt ws 2)

theorem decodeWords_code {mode : BitVec 2} :
    decodeWords seg (code mode o h l :: ws) = decodeCode seg mode o h l (code mode o h l) ws := by
  rw [code_eq_op, decodeWords_op]

/-! ### Undefined opcode words (R163)

One fact for each page of the decoder that leaves opcode words undefined. Under each second nibble `undefinedFields`
says which third and fourth nibbles the page gives no row. -/

/-- The sixteen values of a nibble. -/
theorem nibble_cases {P : BitVec 4 → Prop} (n0 : P 0x0) (n1 : P 0x1) (n2 : P 0x2) (n3 : P 0x3) (n4 : P 0x4)
    (n5 : P 0x5) (n6 : P 0x6) (n7 : P 0x7) (n8 : P 0x8) (n9 : P 0x9) (nA : P 0xA) (nB : P 0xB) (nC : P 0xC)
    (nD : P 0xD) (nE : P 0xE) (nF : P 0xF) (b : BitVec 4) : P b := by
  obtain ⟨⟨b, hb⟩⟩ := b
  have : b < 16 := hb
  interval_cases b <;> assumption

theorem page0_undefined (hu : undefinedFields (0x0#4 ++ b) h l = true) :
    decodeNibbles seg 0x0 b h l w0 w1 w2 w3 = .undefined w0 := by
  induction b using nibble_cases <;> simp [undefinedFields] at hu <;> (try casesm* _ ∨ _) <;>
    simp [decodeNibbles, decodePage0, *]

theorem page1_undefined (hu : undefinedFields (0x1#4 ++ b) h l = true) :
    decodeNibbles seg 0x1 b h l w0 w1 w2 w3 = .undefined w0 := by
  induction b using nibble_cases <;> simp [undefinedFields] at hu <;> (try casesm* _ ∨ _) <;>
    simp [decodeNibbles, decodePage1, *]

theorem page2_undefined (hu : undefinedFields (0x2#4 ++ b) h l = true) :
    decodeNibbles seg 0x2 b h l w0 w1 w2 w3 = .undefined w0 := by
  induction b using nibble_cases <;> simp [undefinedFields] at hu <;> simp [decodeNibbles, decodePage2, *]

theorem page3_undefined (hu : undefinedFields (0x3#4 ++ b) h l = true) :
    decodeNibbles seg 0x3 b h l w0 w1 w2 w3 = .undefined w0 := by
  induction b using nibble_cases <;> simp [undefinedFields] at hu <;> (try casesm* _ ∨ _) <;>
    simp [decodeNibbles, decodePage3, *]

theorem page4_undefined (hu : undefinedFields (0x4#4 ++ b) h l = true) :
    decodeNibbles seg 0x4 b h l w0 w1 w2 w3 = .undefined w0 := by
  induction b using nibble_cases <;> simp [undefinedFields] at hu <;> simp [decodeNibbles, decodePage4, *]

theorem page5_undefined (hu : undefinedFields (0x5#4 ++ b) h l = true) :
    decodeNibbles seg 0x5 b h l w0 w1 w2 w3 = .undefined w0 := by
  induction b using nibble_cases <;> simp [undefinedFields] at hu <;> simp [decodeNibbles, decodePage5, *]

theorem page7_undefined (hu : undefinedFields (0x7#4 ++ b) h l = true) :
    decodeNibbles seg 0x7 b h l w0 w1 w2 w3 = .undefined w0 := by
  induction b using nibble_cases <;> simp [undefinedFields] at hu <;> (try casesm* _ ∨ _, _ ∧ _) <;>
    simp [decodeNibbles, decodePage7, *]

theorem page8_undefined (hu : undefinedFields (0x8#4 ++ b) h l = true) :
    decodeNibbles seg 0x8 b h l w0 w1 w2 w3 = .undefined w0 := by
  induction b using nibble_cases <;> simp [undefinedFields] at hu <;> (try casesm* _ ∨ _) <;>
    simp [decodeNibbles, decodePage8, *]

theorem page9_undefined (hu : undefinedFields (0x9#4 ++ b) h l = true) :
    decodeNibbles seg 0x9 b h l w0 w1 w2 w3 = .undefined w0 := by
  induction b using nibble_cases <;> simp [undefinedFields] at hu <;> simp [decodeNibbles, decodePage9, *]

theorem pageB_undefined (hu : undefinedFields (0xB#4 ++ b) h l = true) :
    decodeNibbles seg 0xB b h l w0 w1 w2 w3 = .undefined w0 := by
  induction b using nibble_cases <;> simp [undefinedFields] at hu <;> (try casesm* _ ∨ _) <;>
    simp [decodeNibbles, decodePageB, *]

/-- The other pages have a row for every opcode word. -/
theorem undefinedFields_eq_false (ha : a = 0x6 ∨ a = 0xA ∨ a = 0xC ∨ a = 0xD ∨ a = 0xE ∨ a = 0xF) :
    undefinedFields (a ++ b) h l = false := by
  obtain rfl | rfl | rfl | rfl | rfl | rfl := ha <;> induction b using nibble_cases <;> rfl

theorem decodeNibbles_undefined (hu : undefinedFields (a ++ b) h l = true) :
    decodeNibbles seg a b h l w0 w1 w2 w3 = .undefined w0 := by
  induction a using nibble_cases
  case n0 => exact page0_undefined hu
  case n1 => exact page1_undefined hu
  case n2 => exact page2_undefined hu
  case n3 => exact page3_undefined hu
  case n4 => exact page4_undefined hu
  case n5 => exact page5_undefined hu
  case n7 => exact page7_undefined hu
  case n8 => exact page8_undefined hu
  case n9 => exact page9_undefined hu
  case nB => exact pageB_undefined hu
  all_goals simp [undefinedFields_eq_false] at hu

theorem undefined_decodes {w : Word} (h : undefinedWord w = true) : decodeWords seg (w :: ws) = .undefined w := by
  have high : nib w 3 ++ nib w 2 = w.extractLsb' 8 8 := by
    apply BitVec.eq_of_toNat_eq
    refine (toNat_append (nib w 3) (nib w 2) rfl).trans ?_
    simp only [nib, BitVec.extractLsb'_toNat, Nat.shiftRight_eq_div_pow]
    omega
  rw [← op_nibs w, decodeWords_op]
  exact decodeNibbles_undefined (high ▸ h)

/-! ### Address operands (R143) -/

theorem short_toNat (x : BitVec 7) (y : Byte) : (0#1 ++ x ++ y : Word).toNat = x.toNat * 256 + y.toNat := by
  have high : (0#1 ++ x : Byte).toNat = 0 * 128 + x.toNat := toNat_append 0#1 x rfl
  refine (toNat_append (0#1 ++ x) y rfl).trans ?_
  rw [high]
  omega

theorem long_toNat (x : BitVec 7) : (1#1 ++ x ++ 0#8 : Word).toNat = 32768 + x.toNat * 256 := by
  have high : (1#1 ++ x : Byte).toNat = 1 * 128 + x.toNat := toNat_append 1#1 x rfl
  refine (toNat_append (1#1 ++ x) 0#8 rfl).trans ?_
  rw [high, BitVec.toNat_ofNat]
  omega

/-- Bit 15 of the first word of an address operand tells the long form from the short one. -/
theorem short_bit (x : BitVec 7) (y : Byte) : (0#1 ++ x ++ y : Word).getLsbD 15 = false := by
  rw [BitVec.getLsbD, short_toNat]
  exact Nat.testBit_lt_two_pow (by omega)

theorem long_bit (x : BitVec 7) : (1#1 ++ x ++ 0#8 : Word).getLsbD 15 = true := by
  rw [BitVec.getLsbD, long_toNat, Nat.testBit_eq_decide_div_mod_eq, decide_eq_true_eq]
  omega

theorem addrOp_short (x : BitVec 7) (y : Byte) (w : Word) : addrOp true (0#1 ++ x ++ y) w = .short x y := by
  have segment : (0#1 ++ x ++ y : Word).extractLsb' 8 7 = x := by
    apply BitVec.eq_of_toNat_eq
    rw [BitVec.extractLsb'_toNat, short_toNat, Nat.shiftRight_eq_div_pow]
    omega
  rw [addrOp, if_pos rfl, short_bit, segment]
  exact congrArg (AddrOp.short x) (append_low_8 (0#1 ++ x) y)

theorem addrOp_long (x : BitVec 7) (w : Word) : addrOp true (1#1 ++ x ++ 0#8) w = .long x w := by
  have segment : (1#1 ++ x ++ 0#8 : Word).extractLsb' 8 7 = x := by
    apply BitVec.eq_of_toNat_eq
    rw [BitVec.extractLsb'_toNat, long_toNat, Nat.shiftRight_eq_div_pow]
    omega
  rw [addrOp, if_pos rfl, long_bit, segment]
  rfl

/-- The address operand at the head of a list of words. -/
def addrAt (seg : Bool) (ws : List Word) : AddrOp := addrOp seg (wordAt ws 0) (wordAt ws 1)

/-- The word after it. -/
def wordAfter (seg : Bool) (ws : List Word) : Word := afterAddr seg (wordAt ws 0) (wordAt ws 1) (wordAt ws 2)

theorem addrAt_encode (h : ad.wf seg = true) : addrAt seg (ad.encode ++ rest) = ad := by
  cases ad with
  | nonseg off =>
    obtain rfl : seg = false := by simpa [AddrOp.wf] using h
    rfl
  | short x y =>
    obtain rfl : seg = true := h
    exact addrOp_short x y _
  | long x off =>
    obtain rfl : seg = true := h
    exact addrOp_long x off

theorem wordAfter_encode (h : ad.wf seg = true) : wordAfter seg (ad.encode ++ rest) = wordAt rest 0 := by
  cases ad with
  | nonseg off =>
    obtain rfl : seg = false := by simpa [AddrOp.wf] using h
    rfl
  | short x y =>
    obtain rfl : seg = true := h
    exact if_neg (by rw [Bool.true_and]; exact ne_true_of_eq_false (short_bit x y))
  | long x off =>
    obtain rfl : seg = true := h
    exact if_pos (long_bit x)

/-! ### Operands (R141)

An operand in memory is in the mode bits and a register field of the opcode word, and in the words after it. What an
operation's opcode words decode to in each mode are its rows; they are read off the decoder's table by evaluation. -/

theorem MemOp.wf_ir {n : Reg} (h : (MemOp.ir n).wf seg = true) : n ≠ 0 := by simpa [MemOp.wf] using h

theorem MemOp.wf_x {n : Reg} (h : (MemOp.x n ad).wf seg = true) : n ≠ 0 ∧ ad.wf seg = true := by
  simpa [MemOp.wf] using h

/-- The rows of an operation with a memory operand: `dec` is what its opcode word with the given mode bits and register
field decodes to before given words, `f` the instruction with the given operand and the word after it. -/
structure MemRows (seg : Bool) (dec : BitVec 2 → Reg → List Word → Instr) (f : MemOp → Word → Instr) : Prop where
  ir : ∀ n ws, n ≠ 0 → dec 0b00 n ws = f (.ir n) (wordAt ws 0)
  da : ∀ ws, dec 0b01 0 ws = f (.da (addrAt seg ws)) (wordAfter seg ws)
  x : ∀ n ws, n ≠ 0 → dec 0b01 n ws = f (.x n (addrAt seg ws)) (wordAfter seg ws)

theorem MemRows.decodes {dec : BitVec 2 → Reg → List Word → Instr} {f : MemOp → Word → Instr} (r : MemRows seg dec f)
    (hm : m.wf seg = true) : dec m.mode m.field (m.ext ++ rest) = f m (wordAt rest 0) := by
  cases m with
  | ir n => exact r.ir n rest (MemOp.wf_ir hm)
  | da ad => exact (r.da _).trans (by rw [MemOp.ext, addrAt_encode hm, wordAfter_encode hm])
  | x n ad =>
    obtain ⟨hn, had⟩ := MemOp.wf_x hm
    exact (r.x n _ hn).trans (by rw [MemOp.ext, addrAt_encode had, wordAfter_encode had])

/-- The rows of the operation `o` whose operand's register field is bits 7 to 4. -/
abbrev CodeRows (seg : Bool) (o : BitVec 6) (l : Reg) (f : MemOp → Word → Instr) : Prop :=
  MemRows seg (fun mode n ws => decodeWords seg (code mode o n l :: ws)) f

theorem CodeRows.of_table {f : MemOp → Word → Instr}
    (ir : ∀ n w0 ws, n ≠ 0 → decodeCode seg 0b00 o n l w0 ws = f (.ir n) (wordAt ws 0) := by
      intros; exact if_neg ‹_›)
    (da : ∀ w0 ws, decodeCode seg 0b01 o 0 l w0 ws = f (.da (addrAt seg ws)) (wordAfter seg ws) := by intros; rfl)
    (x : ∀ n w0 ws, n ≠ 0 → decodeCode seg 0b01 o n l w0 ws = f (.x n (addrAt seg ws)) (wordAfter seg ws) := by
      intros; exact if_neg ‹_›) :
    CodeRows seg o l f :=
  ⟨fun n ws hn => decodeWords_code.trans (ir n _ ws hn), fun ws => decodeWords_code.trans (da _ ws),
    fun n ws hn => decodeWords_code.trans (x n _ ws hn)⟩

theorem memOp_decodes {f : MemOp → Instr} (m : MemOp) (hm : m.wf seg = true)
    (mem : CodeRows seg o l fun m _ => f m := by exact .of_table) :
    decodeWords seg (code m.mode o m.field l :: m.ext ++ rest) = f m :=
  mem.decodes hm

theorem regMem_decodes {f : RegMem → Instr} (rm : RegMem) (hm : rm.wf seg = true)
    (reg : ∀ n w0 ws, decodeCode seg 0b10 o n l w0 ws = f (.reg n) := by intros; rfl)
    (mem : CodeRows seg o l fun m _ => f (.mem m) := by exact .of_table) :
    decodeWords seg (code rm.mode o rm.field l :: rm.ext ++ rest) = f rm := by
  cases rm with
  | reg n => exact decodeWords_code.trans (reg n _ _)
  | mem m => exact mem.decodes hm

@[simp] theorem lowByte_byteWord (v : Byte) : lowByte (byteWord v) = v := by
  apply BitVec.eq_of_toNat_eq
  simp only [lowByte, byteWord, BitVec.extractLsb'_toNat, BitVec.toNat_setWidth, Nat.shiftRight_zero]
  omega

/-- An immediate follows the address operand (R132). -/
theorem memOpWord_decodes {f : MemOp → Word → Instr} (m : MemOp) (v : Word) (hm : m.wf seg = true)
    (mem : CodeRows seg o l f := by exact .of_table) :
    decodeWords seg (code m.mode o m.field l :: m.ext ++ [v] ++ rest) = f m v :=
  (congrArg (decodeWords seg) (List.append_assoc _ [v] rest)).trans (mem.decodes hm)

theorem memOpByte_decodes {f : MemOp → Byte → Instr} (m : MemOp) (v : Byte) (hm : m.wf seg = true)
    (mem : CodeRows seg o l fun m w => f m (lowByte w) := by exact .of_table) :
    decodeWords seg (code m.mode o m.field l :: m.ext ++ [byteWord v] ++ rest) = f m v :=
  (memOpWord_decodes m (byteWord v) hm mem).trans (congrArg (f m) (lowByte_byteWord v))

/-- The second word of LDM, before the address operand, names the first register and the count (R218). -/
theorem ldm_decodes {f : Reg → MemOp → BitVec 4 → Instr} (d : Reg) (m : MemOp) (n : BitVec 4) (hm : m.wf seg = true)
    (ir : ∀ r w0 w1 ws, r ≠ 0 → decodeCode seg 0b00 o r l w0 (w1 :: ws) = f (nib w1 2) (.ir r) (nib w1 0) := by
      intros; exact if_neg ‹_›)
    (da : ∀ w0 w1 ws, decodeCode seg 0b01 o 0 l w0 (w1 :: ws) = f (nib w1 2) (.da (addrAt seg ws)) (nib w1 0) := by
      intros; rfl)
    (x : ∀ r w0 w1 ws, r ≠ 0 →
      decodeCode seg 0b01 o r l w0 (w1 :: ws) = f (nib w1 2) (.x r (addrAt seg ws)) (nib w1 0) := by
      intros; exact if_neg ‹_›) :
    decodeWords seg (code m.mode o m.field l :: op 0x0 d 0x0 n :: m.ext ++ rest) = f d m n := by
  have rows : MemRows seg (fun mode r ws => decodeWords seg (code mode o r l :: op 0x0 d 0x0 n :: ws))
      fun m _ => f (nib (op 0x0 d 0x0 n) 2) m (nib (op 0x0 d 0x0 n) 0) :=
    ⟨fun r ws hr => decodeWords_code.trans (ir r _ _ ws hr), fun ws => decodeWords_code.trans (da _ _ ws),
      fun r ws hr => decodeWords_code.trans (x r _ _ ws hr)⟩
  rw [nib_op_2, nib_op_0] at rows
  exact rows.decodes hm

theorem byteSource_decodes {f : Source Byte → Instr} (src : Source Byte) (hs : src.wf seg = true)
    (reg : ∀ n w0 ws, decodeCode seg 0b10 o n l w0 ws = f (.reg n) := by intros; rfl)
    (imm : ∀ w0 ws, decodeCode seg 0b00 o 0 l w0 ws = f (.imm (lowByte (wordAt ws 0))) := by intros; rfl)
    (mem : CodeRows seg o l fun m _ => f (.mem m) := by exact .of_table) :
    decodeWords seg (code src.mode o src.field l :: src.extByte ++ rest) = f src := by
  cases src with
  | reg n => exact decodeWords_code.trans (reg n _ _)
  | imm v => exact decodeWords_code.trans ((imm _ _).trans (congrArg (fun v => f (.imm v)) (lowByte_byteWord v)))
  | mem m => exact mem.decodes hs

theorem wordSource_decodes {f : Source Word → Instr} (src : Source Word) (hs : src.wf seg = true)
    (reg : ∀ n w0 ws, decodeCode seg 0b10 o n l w0 ws = f (.reg n) := by intros; rfl)
    (imm : ∀ w0 ws, decodeCode seg 0b00 o 0 l w0 ws = f (.imm (wordAt ws 0)) := by intros; rfl)
    (mem : CodeRows seg o l fun m _ => f (.mem m) := by exact .of_table) :
    decodeWords seg (code src.mode o src.field l :: src.extWord ++ rest) = f src := by
  cases src with
  | reg n => exact decodeWords_code.trans (reg n _ _)
  | imm v => exact decodeWords_code.trans (imm _ _)
  | mem m => exact mem.decodes hs

theorem longSource_decodes {f : Source Long → Instr} (src : Source Long) (hs : src.wf seg = true)
    (reg : ∀ n w0 ws, decodeCode seg 0b10 o n l w0 ws = f (.reg n) := by intros; rfl)
    (imm : ∀ w0 ws, decodeCode seg 0b00 o 0 l w0 ws = f (.imm (wordAt ws 0 ++ wordAt ws 1)) := by intros; rfl)
    (mem : CodeRows seg o l fun m _ => f (.mem m) := by exact .of_table) :
    decodeWords seg (code src.mode o src.field l :: src.extLong ++ rest) = f src := by
  cases src with
  | reg n => exact decodeWords_code.trans (reg n _ _)
  | imm v => exact decodeWords_code.trans ((imm _ _).trans (congrArg (fun v => f (.imm v)) (halves_16 v)))
  | mem m => exact mem.decodes hs

/-- The rows of PUSH, PUSHL, POP and POPL, whose pointer `h` is in bits 7 to 4 and whose operand in bits 3 to 0. -/
theorem stackRows_of_table {f : MemOp → Instr} (hp : h ≠ 0)
    (ir : ∀ n w0 ws, h ≠ 0 → n ≠ 0 → decodeCode seg 0b00 o h n w0 ws = f (.ir n) := by
      intro _ _ _ hp hn; exact (if_neg hp).trans (if_neg hn))
    (da : ∀ w0 ws, h ≠ 0 → decodeCode seg 0b01 o h 0 w0 ws = f (.da (addrAt seg ws)) := by
      intro _ _ hp; exact if_neg hp)
    (x : ∀ n w0 ws, h ≠ 0 → n ≠ 0 → decodeCode seg 0b01 o h n w0 ws = f (.x n (addrAt seg ws)) := by
      intro _ _ _ hp hn; exact (if_neg hn).trans (if_neg hp)) :
    MemRows seg (fun mode n ws => decodeWords seg (code mode o h n :: ws)) fun m _ => f m :=
  ⟨fun n ws hn => decodeWords_code.trans (ir n _ ws hp hn), fun ws => decodeWords_code.trans (da _ ws hp),
    fun n ws hn => decodeWords_code.trans (x n _ ws hp hn)⟩

theorem stackRegMem_decodes {f : RegMem → Instr} (rm : RegMem) (hp : h ≠ 0) (hm : rm.wf seg = true)
    (reg : ∀ n w0 ws, h ≠ 0 → decodeCode seg 0b10 o h n w0 ws = f (.reg n) := by intro _ _ _ hp; exact if_neg hp)
    (mem : h ≠ 0 → MemRows seg (fun mode n ws => decodeWords seg (code mode o h n :: ws)) (fun m _ => f (.mem m)) := by
      intro hp; exact stackRows_of_table hp) :
    decodeWords seg (code rm.mode o h rm.field :: rm.ext ++ rest) = f rm := by
  cases rm with
  | reg n => exact decodeWords_code.trans (reg n _ _ hp)
  | mem m => exact (mem hp).decodes hm

theorem encode_push_mem (d : Reg) (m : MemOp) :
    encode (.push d (.mem m)) = code m.mode 0x13 d m.field :: m.ext := by
  cases m with
  | ir n => exact congrArg (· :: []) (code_eq_op 0b00 0x13 d n).symm
  | da ad => exact congrArg (· :: ad.encode) (code_eq_op 0b01 0x13 d 0).symm
  | x n ad => exact congrArg (· :: ad.encode) (code_eq_op 0b01 0x13 d n).symm

theorem push_decodes {d : Reg} {src : Source Word} (hd : d ≠ 0) (hs : src.wf seg = true) :
    decodeWords seg (encode (.push d src) ++ rest) = .push d src := by
  cases src with
  | reg n => exact decodeWords_op.trans (if_neg hd)
  | imm v => exact decodeWords_op.trans (if_neg hd)
  | mem m =>
    rw [encode_push_mem]
    exact (stackRows_of_table (f := fun m => .push d (.mem m)) hd).decodes hs

/-! ### The LD family and the ports -/

theorem LdMem.wf_ba {n : Reg} {disp : Word} (h : (LdMem.ba n disp).wf seg = true) : n ≠ 0 := by
  simpa [LdMem.wf] using h

theorem LdMem.wf_bx {n x : Reg} (h : (LdMem.bx n x).wf seg = true) : n ≠ 0 := by simpa [LdMem.wf] using h

/-- The rows of the modes BA and BX (R145, R146), whose opcode words differ in the first nibble only. -/
structure BasedRows (seg : Bool) (b l : BitVec 4) (f : LdMem → Instr) : Prop where
  encode_ba : ∀ n disp, encode (f (.ba n disp)) = [op 0x3 b n l, disp] := by intros; rfl
  encode_bx : ∀ n x, encode (f (.bx n x)) = [op 0x7 b n l, op 0x0 x 0x0 0x0] := by intros; rfl
  ba : ∀ n w0 w1 w2 w3, n ≠ 0 → decodeNibbles seg 0x3 b n l w0 w1 w2 w3 = f (.ba n w1) := by
    intros; exact if_neg ‹_›
  bx : ∀ n w0 w1 w2 w3, n ≠ 0 → decodeNibbles seg 0x7 b n l w0 w1 w2 w3 = f (.bx n (nib w1 2)) := by
    intros; exact if_neg ‹_›

theorem based_decodes {f : LdMem → Instr} {src : LdMem} (hs : src.wf seg = true)
    (mem : ∀ m, src = .mem m → decodeWords seg (encode (f (.mem m)) ++ rest) = f (.mem m))
    (based : BasedRows seg b l f := by exact {}) : decodeWords seg (encode (f src) ++ rest) = f src := by
  cases src with
  | mem m => exact mem m rfl
  | ba n disp =>
    rw [based.encode_ba]
    exact decodeWords_op.trans (based.ba n _ _ _ _ (LdMem.wf_ba hs))
  | bx n x =>
    rw [based.encode_bx]
    refine (decodeWords_op.trans (based.bx n _ _ _ _ (LdMem.wf_bx hs))).trans ?_
    exact congrArg (fun x => f (.bx n x)) (nib_op_2 0x0 x 0x0 0x0)

theorem ldMem_decodes {f : LdMem → Instr} (src : LdMem) (hs : src.wf seg = true)
    (encode_mem : ∀ m, encode (f (.mem m)) = code m.mode o m.field l :: m.ext := by intros; rfl)
    (mem : CodeRows seg o l fun m _ => f (.mem m) := by exact .of_table)
    (based : BasedRows seg b l f := by exact {}) : decodeWords seg (encode (f src) ++ rest) = f src :=
  based_decodes hs (fun m hm => encode_mem m ▸ mem.decodes (hm ▸ hs : (LdMem.mem m).wf seg = true)) based

theorem lda_decodes {d : Reg} {src : LdMem} (ir : src.isIr = false) (hs : src.wf seg = true) :
    decodeWords seg (encode (.lda d src) ++ rest) = .lda d src := by
  refine based_decodes hs fun m hm => ?_
  subst hm
  cases m with
  | ir n => cases ir
  | da ad =>
    have row : decodeWords seg (code 0b01 0x36 0 d :: (ad.encode ++ rest)) =
        .lda d (.mem (.da (addrAt seg (ad.encode ++ rest)))) := decodeWords_code.trans rfl
    exact row.trans (by rw [addrAt_encode hs])
  | x n ad =>
    obtain ⟨hn, had⟩ := MemOp.wf_x hs
    have row : decodeWords seg (code 0b01 0x36 n d :: (ad.encode ++ rest)) =
        .lda d (.mem (.x n (addrAt seg (ad.encode ++ rest)))) := decodeWords_code.trans (if_neg hn)
    exact row.trans (by rw [addrAt_encode had])

theorem PortOp.wf_ir {n : Reg} (h : (PortOp.ir n).wf = true) : n ≠ 0 := by simpa [PortOp.wf] using h

/-! ### Fields put together again -/

theorem nibbles_8 (v : Byte) : (v.extractLsb' 4 4 ++ v.extractLsb' 0 4 : Byte) = v := by
  apply BitVec.eq_of_toNat_eq
  refine (toNat_append (v.extractLsb' 4 4) (v.extractLsb' 0 4) rfl).trans ?_
  rw [BitVec.extractLsb'_toNat, BitVec.extractLsb'_toNat, Nat.shiftRight_eq_div_pow]
  omega

theorem nibbles_12 (v : BitVec 12) : (v.extractLsb' 8 4 ++ v.extractLsb' 4 4 ++ v.extractLsb' 0 4 : BitVec 12) = v := by
  apply BitVec.eq_of_toNat_eq
  have two : (v.extractLsb' 8 4 ++ v.extractLsb' 4 4 : Byte).toNat =
      (v.extractLsb' 8 4).toNat * 16 + (v.extractLsb' 4 4).toNat := toNat_append _ _ rfl
  refine (toNat_append (v.extractLsb' 8 4 ++ v.extractLsb' 4 4) (v.extractLsb' 0 4) rfl).trans ?_
  rw [two]
  simp only [BitVec.extractLsb'_toNat, Nat.shiftRight_eq_div_pow]
  omega

theorem halves_7 (v : BitVec 7) : (v.extractLsb' 4 3 ++ v.extractLsb' 0 4 : BitVec 7) = v := by
  apply BitVec.eq_of_toNat_eq
  refine (toNat_append (v.extractLsb' 4 3) (v.extractLsb' 0 4) rfl).trans ?_
  simp only [BitVec.extractLsb'_toNat, Nat.shiftRight_eq_div_pow]
  omega

theorem top_bit (c : BitVec 1) (x : BitVec 3) : (c ++ x : BitVec 4).getLsbD 3 = c.getLsbD 0 := by
  revert c x
  decide

theorem low_three (c : BitVec 1) (x : BitVec 3) : (c ++ x : BitVec 4).extractLsb' 0 3 = x := by
  revert c x
  decide

/-- LDCTL (R500, R501): bit 3 of the opcode word is the direction. -/
theorem control_decodes {c : BitVec 1} {k : BitVec 3} : decodeNibbles seg 0x7 0xD h (c ++ k) w0 w1 w2 w3 =
    if c.getLsbD 0 then .ldctlWrite h k else .ldctlRead h k := by
  show (if (c ++ k : BitVec 4).getLsbD 3 then Instr.ldctlWrite h ((c ++ k : BitVec 4).extractLsb' 0 3) else
    .ldctlRead h ((c ++ k : BitVec 4).extractLsb' 0 3)) = _
  rw [top_bit, low_three]

/-- DJNZ and DBJNZ (R376, R377): bit 7 of the opcode word is the width of the counter. -/
theorem counter_decodes {c : BitVec 1} {x : BitVec 3} : decodeNibbles seg 0xF b (c ++ x) l w0 w1 w2 w3 =
    if c.getLsbD 0 then .djnz b (x ++ l) else .dbjnz b (x ++ l) := by
  show (if (c ++ x : BitVec 4).getLsbD 3 then Instr.djnz b ((c ++ x : BitVec 4).extractLsb' 0 3 ++ l) else
    .dbjnz b ((c ++ x : BitVec 4).extractLsb' 0 3 ++ l)) = _
  rw [top_bit, low_three]

/-- The decoder of words undoes the encoder, whatever words follow. -/
theorem decodeWords_encode {i : Instr} (h : i.wf seg = true) : decodeWords seg (encode i ++ rest) = i := by
  cases i
  case addb d src | subb d src | orb d src | andb d src | xorb d src | cpb d src => apply byteSource_decodes src h
  case add d src | sub d src | or d src | and d src | xor d src | cp d src | mult d src | div d src =>
    apply wordSource_decodes src h
  case cpl d src | subl d src | addl d src | multl d src | divl d src => apply longSource_decodes src h
  case comb dst | com dst | negb dst | neg dst | testb dst | test dst | tsetb dst | tset dst | clrb dst | clr dst |
      testl dst | resb dst b | res dst b | setb dst b | set dst b | bitb dst b | bit dst b | incb dst n | inc dst n |
      decb dst n | dec dst n | exb d dst | ex d dst =>
    apply regMem_decodes dst h
  case jp c dst | call dst | ldps dst => apply memOp_decodes dst h
  case cpImm dst v | ldImm dst v => apply memOpWord_decodes dst v h
  case cpbImm dst v | ldbImm dst v => apply memOpByte_decodes dst v h
  case ldm d m n | ldmTo m d n => apply ldm_decodes d m n h
  case ldlMem d m | ldbMem d m | ldMem d m | ldlTo m d | ldbTo m d | ldTo m d => apply ldMem_decodes m h
  case lda d src =>
    obtain ⟨ir, hs⟩ := Bool.and_eq_true_iff.1 h
    exact lda_decodes (Bool.not_eq_eq_eq_not.1 ir) hs
  case push d src =>
    obtain ⟨hs, hd⟩ := Bool.and_eq_true_iff.1 h
    exact push_decodes (bne_iff_ne.1 hd) hs
  case pushl p src | popl src p | pop src p =>
    obtain ⟨hs, hp⟩ := Bool.and_eq_true_iff.1 h
    apply stackRegMem_decodes src (bne_iff_ne.1 hp) hs
  case inw d src | inb d src =>
    cases src with
    | ir n => exact decodeWords_op.trans (if_neg (PortOp.wf_ir h))
    | da p => exact decodeWords_op.trans rfl
  case outw dst s | outb dst s =>
    cases dst with
    | ir n => exact decodeWords_op.trans (if_neg (PortOp.wf_ir h))
    | da p => exact decodeWords_op.trans rfl
  case rlb d two | rl d two | rrb d two | rr d two | rlcb d two | rlc d two | rrcb d two | rrc d two =>
    cases two <;> exact decodeWords_op.trans rfl
  case ldlIM d imm => exact decodeWords_op.trans (congrArg (Instr.ldlIM d) (halves_16 imm))
  case ldbIM d imm => exact decodeWords_op.trans (congrArg (Instr.ldbIM d) (lowByte_byteWord imm))
  case ldbShort d imm => exact decodeWords_op.trans (congrArg (Instr.ldbShort d) (nibbles_8 imm))
  case jr c disp => exact decodeWords_op.trans (congrArg (Instr.jr c) (nibbles_8 disp))
  case sc imm | ext0E imm | ext0F imm | ext4E imm | ext4F imm | ext8E imm | ext8F imm =>
    exact decodeWords_op.trans (congrArg _ (nibbles_8 imm))
  case calr disp => exact decodeWords_op.trans (congrArg Instr.calr (nibbles_12 disp))
  case ldctlRead d k | ldctlWrite d k => exact decodeWords_op.trans control_decodes
  case dbjnz d disp => exact (decodeWords_op.trans counter_decodes).trans (congrArg (Instr.dbjnz d) (halves_7 disp))
  case djnz d disp => exact (decodeWords_op.trans counter_decodes).trans (congrArg (Instr.djnz d) (halves_7 disp))
  case di a b | ei a b =>
    obtain rfl | rfl := a.eq_zero_or_eq_one <;> obtain rfl | rfl := b.eq_zero_or_eq_one <;>
      exact decodeWords_op.trans rfl
  case undefined w => exact undefined_decodes h
  case resbDyn | resDyn | setbDyn | setDyn | bitbDyn | bitDyn =>
    simp [encode, wordAt, decodeWords_op, decodeNibbles, decodePage2]
  case ini | inib | inir | inirb | ind | indb | indr | indrb | outi | outib | otir | otirb | outd | outdb | otdr |
      otdrb | sini | sinib | sinir | sinirb | sind | sindb | sindr | sindrb | souti | soutib | sotir | sotirb | soutd |
      soutdb | sotdr | sotdrb =>
    simp [encode, wordAt, decodeWords_op, decodeNibbles, decodePage3]
  case sdlb | sdab | sdl | sda | sdll | sdal | trib | trirb | trdb | trdrb | trtib | trtirb | trtdb | trtdrb | cpib |
      cpi | cpirb | cpir | cpdb | cpd | cpdrb | cpdr | cpsib | cpsi | cpsirb | cpsir | cpsdb | cpsd | cpsdrb | cpsdr |
      ldib | ldi | ldirb | ldir | lddb | ldd | lddrb | lddr =>
    simp [encode, wordAt, decodeWords_op, decodeNibbles, decodePageB]
  all_goals exact decodeWords_op.trans rfl

/-! ### Lengths and bytes (R93, R133) -/

open Laws

theorem encode_length (i : Instr) : (encode i).length = 1 + i.extWords := by
  cases i
  case addb d src | subb d src | orb d src | andb d src | xorb d src | cpb d src =>
    exact cons_length (source_extByte_length src)
  case add d src | sub d src | or d src | and d src | xor d src | cp d src | mult d src | div d src =>
    exact cons_length (source_extWord_length src)
  case cpl d src | subl d src | addl d src | multl d src | divl d src => exact cons_length (source_extLong_length src)
  case comb dst | com dst | negb dst | neg dst | testb dst | test dst | tsetb dst | tset dst | clrb dst | clr dst |
      testl dst | resb dst b | res dst b | setb dst b | set dst b | bitb dst b | bit dst b | incb dst n | inc dst n |
      decb dst n | dec dst n | exb d dst | ex d dst | pushl p dst | popl dst p | pop dst p =>
    exact cons_length (regMem_ext_length dst)
  case jp c dst | call dst | ldps dst => exact cons_length (memOp_ext_length dst)
  case cpImm dst v | ldImm dst v | cpbImm dst v | ldbImm dst v => exact cons_snoc_length (memOp_ext_length dst)
  case ldm d m n | ldmTo m d n => exact cons_cons_length (memOp_ext_length m)
  case push d src => exact EncodedLength.push d src
  case ldlMem d m | ldbMem d m | ldMem d m | lda d m | ldlTo m s | ldbTo m s | ldTo m s =>
    cases m with
    | mem m => exact cons_length (memOp_ext_length m)
    | ba n disp => rfl
    | bx n x => rfl
  case inw d p | inb d p | outw p s | outb p s => cases p <;> rfl
  all_goals rfl

theorem flatMap_bytesOfWord_length (ws : List Word) : (ws.flatMap bytesOfWord).length = 2 * ws.length := by
  induction ws with
  | nil => rfl
  | cons w ws ih =>
    rw [List.flatMap_cons, List.length_append, ih, List.length_cons]
    have two : (bytesOfWord w).length = 2 := rfl
    omega

theorem wordsOfBytes_flatMap (ws : List Word) (tail : List Byte) :
    wordsOfBytes (ws.flatMap bytesOfWord ++ tail) = ws ++ wordsOfBytes tail := by
  induction ws with
  | nil => rfl
  | cons w ws ih =>
    show (w.extractLsb' 8 8 ++ w.extractLsb' 0 8) :: wordsOfBytes (ws.flatMap bytesOfWord ++ tail) = _
    rw [ih, halves_8]
    rfl

/-- The words that an instruction needs are there when its encoding is, and the decoder drops no more. -/
theorem decodeBytes_of_words {i : Instr} {tail : List Byte} (len : ws.length = 1 + i.extWords)
    (h : decodeWords seg (ws ++ wordsOfBytes tail) = i) :
    decodeBytes seg (ws.flatMap bytesOfWord ++ tail) = .ok (i, tail) := by
  have enough : ¬ (ws ++ wordsOfBytes tail).length < 1 + i.extWords := by
    rw [List.length_append, len]
    omega
  have taken : (ws.flatMap bytesOfWord ++ tail).drop (2 * (1 + i.extWords)) = tail :=
    List.drop_left' ((flatMap_bytesOfWord_length ws).trans (by rw [len]))
  unfold decodeBytes
  dsimp only
  rw [wordsOfBytes_flatMap, h, if_neg enough, taken]

/-- Settles O45: the instruction by `decodeWords_encode`, the bytes left over by `encode_length`. -/
theorem decodingUndoesEncoding : Obligations.DecodingUndoesEncoding :=
  fun _ i _ h => decodeBytes_of_words (encode_length i) (decodeWords_encode h)

/-! ### Sample words -/

theorem decodeWords_of_encode {i : Instr} (h : i.wf seg = true) (he : encode i = ws) : decodeWords seg ws = i := by
  have undo := decodeWords_encode (rest := []) h
  rwa [List.append_nil, he] at undo

/-- Settles O46: each list of words is what the encoder writes for its instruction. -/
theorem sampleWordsDecodeAsTheTableSays : Obligations.SampleWordsDecodeAsTheTableSays :=
  ⟨decodeWords_of_encode rfl rfl, decodeWords_of_encode rfl rfl, decodeWords_of_encode rfl rfl,
    decodeWords_of_encode rfl rfl, decodeWords_of_encode rfl rfl, decodeWords_of_encode rfl rfl,
    decodeWords_of_encode rfl rfl, decodeWords_of_encode rfl rfl, decodeWords_of_encode rfl rfl,
    decodeWords_of_encode rfl rfl, decodeWords_of_encode rfl rfl⟩

end

end Sys2Proof

namespace Sys2Proof.Machine

open Sys2Proof

/-! ### Operands of each width (30_encoding.md R137, R151)

A write to one place, said once for the three widths: what the place then holds, and what is kept. The state written to
is one that differs from `s` only by accesses made and words fetched. -/

section

variable {s t u : State} {regs : List Reg} {stored : List Nat} {flags : Word} {r : Rest} {n : Nat} {w : Width n}
  {F : State → State → Place → Word → Rest → Prop} {o : Out} {p : Place} {v : BitVec n}

theorem Frame.cfg (h : Frame s t regs stored flags s.rest) : t.cfg = s.cfg := congrArg Rest.cfg h.rest.1

theorem Frame.fcw_eq (h : Frame s t regs stored 0 r) : t.fcw = s.fcw := by
  have all : ~~~(0 : Word) = BitVec.allOnes 16 := rfl
  simpa only [all, BitVec.and_allOnes] using h.fcw

theorem Frame.segmented (h : Frame s t regs stored 0 s.rest) : t.segmented = s.segmented := by
  simp only [State.segmented, h.cfg, h.fcw_eq]

theorem Frame.offsetReg (h : Frame s t regs stored 0 s.rest) (p : Reg) : t.offsetReg p = s.offsetReg p := by
  simp only [State.offsetReg, h.segmented]

/-- A frame that keeps every flag is a frame for any flags. -/
theorem Frame.anyFlags (h : Frame s t regs stored 0 r) : Frame s t regs stored flags r :=
  ⟨h.regs, h.mem, by rw [h.fcw_eq], h.rest⟩

/-! #### What a write changes -/

/-- The word registers that a place is part of, given those of a register field. -/
def Place.homes (f : Reg → List Reg) : Place → List Reg
  | .reg k => f k
  | .addr _ => []

/-- The bytes of memory at a place, given those of an address. -/
def Place.cells (f : Addr → List Nat) : Place → List Nat
  | .reg _ => []
  | .addr a => f a

/-- A width that writes to a register the word registers `homes`, and to an address the bytes `cells`. -/
structure Width.Keeps (w : Width n) (homes : State → Reg → List Reg) (cells : State → Addr → List Nat) : Prop where
  touch  : ∀ {s t : State} {regs : List Reg} {stored : List Nat} {flags : Word},
    Frame s t regs stored flags s.rest → ∀ a, Frame s (w.touch t a) regs stored flags s.rest
  setReg : ∀ {s t : State} {regs : List Reg} {stored : List Nat} {flags : Word},
    Frame s t regs stored flags s.rest → ∀ k v, (∀ m ∈ homes s k, m ∈ regs) →
      Frame s (w.setReg t k v) regs stored flags s.rest
  store  : ∀ {s t : State} {regs : List Reg} {stored : List Nat} {flags : Word},
    Frame s t regs stored flags s.rest → ∀ a v, (∀ x ∈ cells s a, x ∈ stored) →
      Frame s (w.store t a v) regs stored flags s.rest

theorem Frame.byteHome (h : Frame s t regs stored flags s.rest) (k : Reg) : t.byteHome k = s.byteHome k := by
  simp only [State.byteHome, h.cfg]

theorem byteW_keeps : byteW.Keeps (fun s k => [s.byteHome k]) State.byteCells where
  touch h a := h.access _ _
  setReg h k v hk := h.setByteReg k v (by rw [h.byteHome]; exact hk _ (List.mem_singleton_self _))
  store h a v ha := h.writeByte .data a v (by rwa [byteCells_congr h.cfg])

theorem wordW_keeps : wordW.Keeps (fun _ k => [k]) State.wordCells where
  touch h a := h.access _ _
  setReg h k v hk := h.setReg k v (hk k (List.mem_singleton_self k))
  store h a v ha := h.writeWord .data a v (by rwa [wordCells_congr h.cfg])

theorem longW_keeps : longW.Keeps (fun _ k => [k, k + 1]) State.longCells where
  touch h a := h.access _ _
  setReg h k v hk := h.setLongReg k v (hk k (by simp)) (hk (k + 1) (by simp))
  store h a v ha := h.writeLong .data a v (by rwa [longCells_congr h.cfg])

section

variable {homes : State → Reg → List Reg} {cells : State → Addr → List Nat}

theorem Width.Keeps.put (hw : w.Keeps homes cells) (h : Frame s t regs stored flags s.rest) (p : Place)
    (v : BitVec n) (hr : ∀ m ∈ p.homes (homes s), m ∈ regs) (hc : ∀ x ∈ p.cells (cells s), x ∈ stored) :
    Frame s (p.put w t v) regs stored flags s.rest :=
  match p with
  | .reg k => hw.setReg h k v hr
  | .addr a => hw.store h a v hc

theorem Width.Keeps.touchPlace (hw : w.Keeps homes cells) (h : Frame s t regs stored flags s.rest) (p : Place) :
    Frame s (p.touch w t) regs stored flags s.rest :=
  match p with
  | .reg _ => h
  | .addr a => hw.touch h a

theorem Width.Keeps.touchSource (hw : w.Keeps homes cells) (h : Frame s t regs stored flags s.rest)
    (src : Source (BitVec n)) : Frame s (src.touch w t) regs stored flags s.rest :=
  match src with
  | .reg _ | .imm _ => h
  | .mem m => hw.touch h (m.ea t)

end

/-- From `s` to `u` words are fetched and accesses made, and nothing else changes. -/
abbrev Undisturbed (s u : State) : Prop := Frame s u [] [] 0 s.rest

theorem Undisturbed.fetchExt (s : State) (k : Nat) : Undisturbed s (s.fetchExt k) := Frame.fetchExt s k [] [] 0

theorem Undisturbed.refl (s : State) : Undisturbed s s := .fetchExt s 0

/-- It is within every frame. -/
theorem Undisturbed.frame (h : Undisturbed s u) : Frame s u regs stored flags s.rest :=
  ⟨fun m _ => h.regs m List.not_mem_nil, fun a _ => h.mem a List.not_mem_nil, by rw [h.fcw_eq], h.rest⟩

theorem Undisturbed.byteReg (h : Undisturbed s u) (k : Reg) : u.byteReg k = s.byteReg k := by
  simp only [State.byteReg, State.byteRegAt, h.cfg, h.regs _ List.not_mem_nil]

/-! #### What a write leaves at its place -/

/-- Memory holds a byte after a byte store to its address (R95). -/
theorem State.readByte_writeByte (s : State) (q q' : Role) (a : Addr) (b : Byte) :
    (s.writeByte q a b).bare.readByte q' a = b := by
  simp

/-- A width whose place holds what is written to it, whose frame of one place is `F`, and which leaves FCW alone. -/
structure Width.Framed (w : Width n) (F : State → State → Place → Word → Rest → Prop) : Prop where
  put          : ∀ {s u : State}, Undisturbed s u → ∀ (p : Place) (v : BitVec n), F s (p.put w u v) p 0 s.rest
  touch        : ∀ {s u : State}, Undisturbed s u → ∀ p : Place, Undisturbed s (p.touch w u)
  setFlags     : ∀ {s t : State} {p : Place} {r : Rest}, F s t p 0 r → ∀ {f : FlagUpdate} {flags : Word},
    f.mask &&& ~~~flags = 0 → F s (t.setFlags f) p flags r
  get_put      : ∀ (u : State) (p : Place) (v : BitVec n), p.get w (p.put w u v).bare = v
  get_setFlags : ∀ (t : State) (p : Place) (f : FlagUpdate), p.get w (t.setFlags f).bare = p.get w t.bare
  fcw_put      : ∀ (u : State) (p : Place) (v : BitVec n), (p.put w u v).fcw = u.fcw

theorem byteW_framed : byteW.Framed ByteFrame where
  put h p v := by
    cases p with
    | reg k =>
      exact ⟨byteW_keeps.setReg h.frame k v fun _ => id,
        fun j hj => (State.byteReg_setByteReg_other _ hj v).trans (h.byteReg j)⟩
    | addr a => exact byteW_keeps.store h.frame a v fun _ => id
  touch h p := byteW_keeps.touchPlace h p
  setFlags {_ _ p _} h f flags hf := by
    cases p with
    | reg k => exact ⟨h.1.anyFlags.setFlags f hf, h.2⟩
    | addr a => exact Frame.setFlags (Frame.anyFlags h) f hf
  get_put u p v := by
    cases p with
    | reg k => exact u.byteReg_setByteReg k v
    | addr a => exact u.readByte_writeByte .data .data a v
  get_setFlags t p f := by cases p <;> rfl
  fcw_put u p v := by cases p <;> rfl

theorem wordW_framed : wordW.Framed WordFrame where
  put h p v := by
    cases p with
    | reg k => exact wordW_keeps.setReg h.frame k v fun _ => id
    | addr a => exact wordW_keeps.store h.frame a v fun _ => id
  touch h p := wordW_keeps.touchPlace h p
  setFlags {_ _ p _} h f flags hf := by cases p <;> exact Frame.setFlags (Frame.anyFlags h) f hf
  get_put u p v := by
    cases p with
    | reg k => exact u.reg_setReg_same k v
    | addr a => exact u.readWord_writeWord .data .data a v
  get_setFlags t p f := by cases p <;> rfl
  fcw_put u p v := by cases p <;> rfl

theorem longW_framed : longW.Framed LongFrame where
  put h p v := by
    cases p with
    | reg k => exact longW_keeps.setReg h.frame k v fun _ => id
    | addr a => exact longW_keeps.store h.frame a v fun _ => id
  touch h p := longW_keeps.touchPlace h p
  setFlags {_ _ p _} h f flags hf := by cases p <;> exact Frame.setFlags (Frame.anyFlags h) f hf
  get_put u p v := by
    cases p with
    | reg k => exact u.longReg_setLongReg k v
    | addr a => exact u.readLong_writeLong .data .data a v
  get_setFlags t p f := by cases p <;> rfl
  fcw_put u p v := by
    cases p with
    | reg k => rfl
    | addr a => exact u.writeLong_fcw .data a v

/-! #### What an instruction leaves that writes one place -/

/-- A value written to a place. -/
theorem Width.Framed.puts (hw : w.Framed F) (hu : Undisturbed s u) (hx : o = .next (p.put w u v)) :
    ∃ t, o = .next t ∧ p.get w t.bare = v ∧ F s t p 0 s.rest :=
  ⟨_, hx, hw.get_put _ p v, hw.put hu p v⟩

/-- A value loaded from memory into a register. -/
theorem Width.Framed.loads (hw : w.Framed F) (hs : w.Steady) {k : Nat} {d : Reg} {a : Addr}
    (hx : o = .next (loadFrom w d a (s.fetchExt k))) :
    ∃ t, o = .next t ∧ (Place.reg d).get w t.bare = w.load s a ∧ F s t (.reg d) 0 s.rest := by
  rw [← hs.load s k a]
  exact hw.puts (p := .reg d) (hw.touch (.fetchExt s k) (.addr a)) hx

theorem modify_eq (w : Width n) (dst : RegMem) (op : BitVec n → BitVec n × FlagUpdate) (s : State) :
    modify w dst op s = ((dst.place s).put w ((dst.place s).touch w s) (op ((dst.place s).get w s)).1).setFlags
      (op ((dst.place s).get w s)).2 := rfl

/-- A read-modify-write of one place (R151). -/
theorem Width.Framed.modifies (hw : w.Framed F) (hs : w.Steady) {k : Nat} {dst : RegMem}
    {op : BitVec n → BitVec n × FlagUpdate} (hx : o = .next (modify w dst op (s.fetchExt k)))
    (hf : (op ((dst.place s).get w s)).2.mask &&& ~~~flags = 0) :
    ∃ t, o = .next t ∧ (dst.place s).get w t.bare = (op ((dst.place s).get w s)).1 ∧
      t.fcw = (op ((dst.place s).get w s)).2.apply s.fcw ∧ F s t (dst.place s) flags s.rest := by
  have hu := hw.touch (.fetchExt s k) (dst.place s)
  rw [modify_eq, RegMem.place_fetchExt, Place.get_fetchExt s hs] at hx
  refine ⟨_, hx, ?_, ?_, hw.setFlags (hw.put hu _ _) hf⟩
  · rw [hw.get_setFlags, hw.get_put]
  · rw [State.setFlags_fcw, hw.fcw_put, hu.fcw_eq]

end

end Sys2Proof.Machine

namespace Sys2Proof.Machine

open Sys2Proof

/-! ### What each instruction of data movement computes (40_data_movement.md)

Its next state over the state after its words, `s.fetchExt k`, with operands and addresses as `s` has them (R152). An
instruction without a lemma here is such an equation by `rfl`. -/

section

variable {s t : State} {d r : Reg} {disp : Word}

/-- An instruction whose register fields are legal does its effect once its words are fetched. -/
theorem need_finish {b : Bool} {f : Fault} {k : Nat} {g : State → State} (h : b = true) (e : g (s.fetchExt k) = t) :
    need b f (finish s k g) = .next t := (need_of f _ h).trans (congrArg Host.Outcome.next e)

section

variable {m : LdMem}

theorem exec_ldMem (h : m.pairs s.segmented = true) :
    exec (.ldMem d m) s = .next (loadFrom wordW d (m.ea s) (s.fetchExt m.extWords)) :=
  need_finish h (by rw [LdMem.ea_fetchExt])

theorem exec_ldbMem (h : m.pairs s.segmented = true) : exec (.ldbMem d m) s =
    .next (((s.fetchExt m.extWords).touchByte .data (m.ea s)).loadByteReg d (s.readByte .data (m.ea s))) :=
  need_finish h (by rw [LdMem.ea_fetchExt, ← s.fetchExt_readByte m.extWords]; rfl)

theorem exec_ldlMem (h : m.pairs s.segmented = true) (hd : evenReg d = true) :
    exec (.ldlMem d m) s = .next (loadFrom longW d (m.ea s) (s.fetchExt m.extWords)) :=
  need_finish (by rw [h, hd]; rfl) (by rw [LdMem.ea_fetchExt])

theorem exec_ldTo (h : m.pairs s.segmented = true) :
    exec (.ldTo m r) s = .next ((s.fetchExt m.extWords).writeWord .data (m.ea s) (s.reg r)) :=
  need_finish h (by rw [LdMem.ea_fetchExt, State.fetchExt_reg])

theorem exec_ldbTo (h : m.pairs s.segmented = true) :
    exec (.ldbTo m r) s = .next ((s.fetchExt m.extWords).writeByte .data (m.ea s) (s.byteReg r)) :=
  need_finish h (by rw [LdMem.ea_fetchExt, State.fetchExt_byteReg])

theorem exec_ldlTo (h : m.pairs s.segmented = true) (hr : evenReg r = true) :
    exec (.ldlTo m r) s = .next ((s.fetchExt m.extWords).writeLong .data (m.ea s) (s.longReg r)) :=
  need_finish (by rw [h, hr]; rfl) (by rw [LdMem.ea_fetchExt, State.fetchExt_longReg])

theorem exec_lda (h : m.pairs s.segmented = true) (hd : ptrReg s.segmented d = true) :
    exec (.lda d m) s = .next ((s.fetchExt m.extWords).loadAddress d (m.ea s)) :=
  need_finish (by rw [h, hd]; rfl) (by rw [LdMem.ea_fetchExt])

end

theorem exec_ldlR (hd : evenReg d = true) (hr : evenReg r = true) :
    exec (.ldlR d r) s = .next (s.setLongReg d (s.longReg r)) :=
  need_of .oddPair _ (by rw [hd, hr]; rfl)

theorem exec_ldlIM {v : Long} (hd : evenReg d = true) : exec (.ldlIM d v) s = .next ((s.fetchExt 2).setLongReg d v) :=
  need_of .oddPair _ hd

/-! #### Relative operands (R148) -/

theorem exec_ldrLoad :
    exec (.ldrLoad d disp) s = .next (loadFrom wordW d (s.addrAdd s.pc (2 + disp)) (s.fetchExt 1)) := by
  rw [← s.fetchExt_relative]
  rfl

theorem exec_ldrbLoad : exec (.ldrbLoad d disp) s =
    .next (((s.fetchExt 1).touchByte .data (s.addrAdd s.pc (2 + disp))).loadByteReg d
      (s.readByte .data (s.addrAdd s.pc (2 + disp)))) := by
  rw [← s.fetchExt_relative, ← s.fetchExt_readByte 1]
  rfl

theorem exec_ldrlLoad (hd : evenReg d = true) :
    exec (.ldrlLoad d disp) s = .next (loadFrom longW d (s.addrAdd s.pc (2 + disp)) (s.fetchExt 1)) :=
  need_finish hd (by rw [State.fetchExt_relative])

theorem exec_ldrStore :
    exec (.ldrStore disp r) s = .next ((s.fetchExt 1).writeWord .data (s.addrAdd s.pc (2 + disp)) (s.reg r)) := by
  rw [← s.fetchExt_relative, ← s.fetchExt_reg 1]
  rfl

theorem exec_ldrbStore :
    exec (.ldrbStore disp r) s = .next ((s.fetchExt 1).writeByte .data (s.addrAdd s.pc (2 + disp)) (s.byteReg r)) := by
  rw [← s.fetchExt_relative, ← s.fetchExt_byteReg 1]
  rfl

theorem exec_ldrlStore (hr : evenReg r = true) :
    exec (.ldrlStore disp r) s = .next ((s.fetchExt 1).writeLong .data (s.addrAdd s.pc (2 + disp)) (s.longReg r)) :=
  need_finish hr (by rw [State.fetchExt_relative, State.fetchExt_longReg])

theorem exec_ldar (hd : ptrReg s.segmented d = true) :
    exec (.ldar d disp) s = .next ((s.fetchExt 1).loadAddress d (s.addrAdd s.pc (2 + disp))) :=
  need_finish hd (by rw [State.fetchExt_relative])

/-! #### Memory operands of the general modes -/

section

variable {m : MemOp} {c : BitVec 4}

theorem exec_ldImm {v : Word} (h : m.pairs s.segmented = true) :
    exec (.ldImm m v) s = .next ((s.fetchExt (m.extWords + 1)).writeWord .data (m.ea s) v) :=
  need_finish h (by rw [MemOp.ea_fetchExt])

theorem exec_ldbImm {v : Byte} (h : m.pairs s.segmented = true) :
    exec (.ldbImm m v) s = .next ((s.fetchExt (m.extWords + 1)).writeByte .data (m.ea s) v) :=
  need_finish h (by rw [MemOp.ea_fetchExt])

theorem exec_ldm (h : m.pairs s.segmented = true) : exec (.ldm d m c) s =
    .next ((s.fetchExt (m.extWords + 1)).loadMultiple (wordAlign (m.ea s)) d (c.toNat + 1)) :=
  need_finish h (by rw [MemOp.ea_fetchExt])

theorem exec_ldmTo (h : m.pairs s.segmented = true) : exec (.ldmTo m r c) s =
    .next ((s.fetchExt (m.extWords + 1)).storeMultiple (wordAlign (m.ea s)) r (c.toNat + 1)) :=
  need_finish h (by rw [MemOp.ea_fetchExt])

end

section

variable {x : RegMem}

theorem exec_clr (h : x.pairs s.segmented = true) :
    exec (.clr x) s = .next ((x.place s).put wordW (s.fetchExt x.extWords) 0) :=
  need_finish h (by rw [RegMem.place_fetchExt])

theorem exec_clrb (h : x.pairs s.segmented = true) :
    exec (.clrb x) s = .next ((x.place s).put byteW (s.fetchExt x.extWords) 0) :=
  need_finish h (by rw [RegMem.place_fetchExt])

theorem exec_tset (h : x.pairs s.segmented = true) :
    exec (.tset x) s = .next (modify wordW x testAndSet (s.fetchExt x.extWords)) := need_of .oddPair _ h

theorem exec_tsetb (h : x.pairs s.segmented = true) :
    exec (.tsetb x) s = .next (modify byteW x testAndSet (s.fetchExt x.extWords)) := need_of .oddPair _ h

theorem exec_ex (h : x.pairs s.segmented = true) :
    exec (.ex d x) s = .next (exchange wordW d x (s.fetchExt x.extWords)) := need_of .oddPair _ h

theorem exec_exb (h : x.pairs s.segmented = true) :
    exec (.exb d x) s = .next (exchange byteW d x (s.fetchExt x.extWords)) := need_of .oddPair _ h

/-! #### The stack -/

variable {p : Reg}

theorem exec_push {src : Source Word} (h : src.pairs s.segmented = true) (hp : ptrReg s.segmented p = true) :
    exec (.push p src) s =
      .next ((src.touch wordW (s.fetchExt (src.extWords 1))).pushWord p (src.value wordW s)) :=
  need_finish (by rw [h, hp]; rfl) (by rw [Source.value_fetchExt s wordW_steady])

theorem exec_pushl (h : x.pairsL s.segmented = true) (hp : ptrReg s.segmented p = true) :
    exec (.pushl p x) s =
      .next (((x.place s).touch longW (s.fetchExt x.extWords)).pushLong p ((x.place s).get longW s)) :=
  need_finish (by rw [h, hp]; rfl) (by rw [RegMem.place_fetchExt, Place.get_fetchExt s longW_steady])

theorem State.fetchExt_topWord (s : State) (k : Nat) (p : Reg) : (s.fetchExt k).topWord p = s.topWord p :=
  (s.fetchExt_readWord k .stack _).trans (congrArg (s.readWord .stack) (s.fetchExt_pointer k p))

theorem State.fetchExt_topLong (s : State) (k : Nat) (p : Reg) : (s.fetchExt k).topLong p = s.topLong p :=
  (s.fetchExt_readLong k .stack _).trans (congrArg (s.readLong .stack) (s.fetchExt_pointer k p))

theorem exec_pop (h : x.pairs s.segmented = true) (hp : ptrReg s.segmented p = true) :
    exec (.pop x p) s =
      .next ((x.place s).put wordW ((s.fetchExt x.extWords).dropWord p) (s.topWord p)) :=
  need_finish (by rw [h, hp]; rfl) (by rw [RegMem.place_fetchExt, State.fetchExt_topWord])

theorem exec_popl (h : x.pairsL s.segmented = true) (hp : ptrReg s.segmented p = true) :
    exec (.popl x p) s =
      .next ((x.place s).put longW ((s.fetchExt x.extWords).dropLong p) (s.topLong p)) :=
  need_finish (by rw [h, hp]; rfl) (by rw [RegMem.place_fetchExt, State.fetchExt_topLong])

end

end

end Sys2Proof.Machine

namespace Sys2Proof.Machine

open Sys2Proof

section

variable {s t u : State} {d : Reg} {o : Out}

/-! ### Loads and stores (R201 to R217) -/

/-- Settles O1: each of the nine loads puts one value in one register, `Width.Framed.puts` and `Width.Framed.loads`. -/
theorem loadsFillTheRegister : Obligations.LoadsFillTheRegister := by
  intro s d
  have fetched : ∀ k, Undisturbed s (s.fetchExt k) := .fetchExt s
  refine ⟨fun r => wordW_framed.puts (p := .reg d) (fetched 0) rfl,
    fun v => wordW_framed.puts (p := .reg d) (fetched 1) rfl, fun c => ?_,
    fun src hs => wordW_framed.loads wordW_steady (exec_ldMem hs),
    fun disp => wordW_framed.loads wordW_steady exec_ldrLoad,
    fun r hd hr => longW_framed.puts (p := .reg d) (fetched 0) (exec_ldlR hd hr),
    fun v hd => longW_framed.puts (p := .reg d) (fetched 2) (exec_ldlIM hd),
    fun src hs hd => longW_framed.loads longW_steady (exec_ldlMem hs hd),
    fun disp hd => longW_framed.loads longW_steady (exec_ldrlLoad hd)⟩
  obtain ⟨t, ht, hv, frame⟩ := wordW_framed.puts (o := exec (.ldk d c) s) (p := .reg d) (fetched 0) rfl
  exact ⟨t, ht, (congrArg BitVec.toNat hv).trans (BitVec.toNat_setWidth_of_le (by decide)), frame⟩

/-- Settles O3: each of the eight stores writes one place in memory. -/
theorem storesWriteTheirBytesOnly : Obligations.StoresWriteTheirBytesOnly := by
  intro s r
  have fetched : ∀ k, Undisturbed s (s.fetchExt k) := .fetchExt s
  exact ⟨fun dst h => wordW_framed.puts (p := .addr (dst.ea s)) (fetched _) (exec_ldTo h),
    fun dst v h => wordW_framed.puts (p := .addr (dst.ea s)) (fetched _) (exec_ldImm h),
    fun disp => wordW_framed.puts (p := .addr (s.addrAdd s.pc (2 + disp))) (fetched 1) exec_ldrStore,
    fun dst h => byteW_framed.puts (p := .addr (dst.ea s)) (fetched _) (exec_ldbTo h),
    fun dst v h => byteW_framed.puts (p := .addr (dst.ea s)) (fetched _) (exec_ldbImm h),
    fun disp => byteW_framed.puts (p := .addr (s.addrAdd s.pc (2 + disp))) (fetched 1) exec_ldrbStore,
    fun dst h hr => longW_framed.puts (p := .addr (dst.ea s)) (fetched _) (exec_ldlTo h hr),
    fun disp hr => longW_framed.puts (p := .addr (s.addrAdd s.pc (2 + disp))) (fetched 1) (exec_ldrlStore hr)⟩

/-! ### Byte loads (R204, R211, R229) -/

/-- The parity of the number of elements that a test picks, as an exclusive or. -/
theorem even_filter_length {α : Type} (f : α → Bool) (l : List α) :
    ((l.filter f).length % 2 == 0) = l.foldr (fun a b => f a ^^ b) true := by
  induction l with
  | nil => rfl
  | cons a l ih =>
    rw [List.foldr_cons, ← ih, List.filter_cons]
    cases f a with
    | false => simp
    | true => rcases Nat.mod_two_eq_zero_or_one (l.filter f).length with h | h <;> simp [Nat.add_mod, h]

/-- R250: the model's parity is that of the number of 1 bits. -/
theorem parity8_eq_evenOnes {n : Nat} (r : BitVec n) : parity8 r = evenOnes r := by
  have bits : List.range 8 = [0, 1, 2, 3, 4, 5, 6, 7] := rfl
  rw [evenOnes, even_filter_length, bits]
  simp [parity8]

theorem logicByte_apply (r : Byte) (f : Word) : LogicByte r ((logicFlagsB r).apply f) :=
  ⟨⟨flagZ_apply _ f, flagS_apply _ f⟩, (flagPV_apply _ f).trans (parity8_eq_evenOnes r)⟩

/-- R229: FCW describes the byte loaded, or is as it was. -/
theorem loadFlags_apply (s : State) (b : Byte) :
    LoadFlags s b ((byteLoadFlags s.cfg.byteLoadFlags b).apply s.fcw) := by
  unfold LoadFlags
  cases s.cfg.byteLoadFlags with
  | zsp => exact logicByte_apply b s.fcw
  | none => rfl

theorem mask_zsp (z s pv : Bool) :
    ({ z := some z, s := some s, pv := some pv } : FlagUpdate).mask &&& ~~~flagsZSP = 0 := by
  revert z s pv
  decide

theorem byteLoadFlags_mask (q : ByteLoadFlags) (b : Byte) : (byteLoadFlags q b).mask &&& ~~~flagsZSP = 0 := by
  cases q with
  | zsp => exact mask_zsp _ _ _
  | none => exact (by decide : ({} : FlagUpdate).mask &&& ~~~flagsZSP = 0)

theorem State.loadByteReg_fcw (s : State) (d : Reg) (b : Byte) :
    (s.loadByteReg d b).fcw = (byteLoadFlags s.cfg.byteLoadFlags b).apply s.fcw := rfl

theorem loadByteReg_loads (hu : Undisturbed s u) {b : Byte} (hx : o = .next (u.loadByteReg d b)) :
    ∃ t, o = .next t ∧ t.byteReg d = b ∧ LoadFlags s b t.fcw ∧ ByteFrame s t (.reg d) flagsZSP s.rest := by
  refine ⟨_, hx, u.byteReg_setByteReg d b, ?_,
    byteW_framed.setFlags (byteW_framed.put hu (.reg d) b) (byteLoadFlags_mask _ b)⟩
  rw [State.loadByteReg_fcw, hu.fcw_eq, hu.cfg]
  exact loadFlags_apply s b

/-- Settles O2: each of the five loads ends in `State.loadByteReg`. -/
theorem byteLoadsFillHalfARegister : Obligations.ByteLoadsFillHalfARegister := by
  intro s d
  have fetched : ∀ k, Undisturbed s (s.fetchExt k) := .fetchExt s
  exact ⟨fun r => loadByteReg_loads (fetched 0) rfl, fun v => loadByteReg_loads (fetched 1) rfl,
    fun v => loadByteReg_loads (fetched 0) rfl,
    fun src hs => loadByteReg_loads (byteW_framed.touch (fetched _) (.addr _)) (exec_ldbMem hs),
    fun disp => loadByteReg_loads (byteW_framed.touch (fetched 1) (.addr _)) exec_ldrbLoad⟩

/-! ### CLR, TSET and TCC (R226, R227, R312 to R315) -/

theorem mask_s (b : Bool) : ({ s := some b } : FlagUpdate).mask &&& ~~~0x0020 = 0 := by
  revert b
  decide

/-- R314: bit 0 is set if the condition holds; else it is cleared or kept, by `TCC_FALSE`. -/
theorem testCondition_getLsbD {n : Nat} (hn : 0 < n) (q : TccFalse) (b : Bool) (x : BitVec n) (j : Nat) :
    (testCondition q b x).getLsbD j = if j = 0 then b || (decide (q = .keep) && x.getLsbD 0) else x.getLsbD j := by
  unfold testCondition
  cases b with
  | true => simp [putBit_getLsbD _ _ _ _ hn]
  | false =>
    cases q with
    | clear => simp [putBit_getLsbD _ _ _ _ hn]
    | keep => by_cases hj : j = 0 <;> simp [hj]

/-- Settles O4: each of the six writes one place, whose old value TSET and TCC read. -/
theorem clearsTestAndSetsTestConditions : Obligations.ClearsTestAndSetsTestConditions := by
  have fetched : ∀ s k, Undisturbed s (s.fetchExt k) := .fetchExt
  refine ⟨fun s dst h => ⟨wordW_framed.puts (fetched s _) (exec_clr h), byteW_framed.puts (fetched s _) (exec_clrb h)⟩,
    fun s => ⟨fun dst h => ⟨?_, ?_⟩, fun c d => ⟨?_, ?_⟩⟩⟩
  · obtain ⟨t, ht, hv, hf, frame⟩ := wordW_framed.modifies wordW_steady (exec_tset h) (mask_s _)
    exact ⟨t, ht, hv, by rw [hf, flagS_apply]; rfl, frame⟩
  · obtain ⟨t, ht, hv, hf, frame⟩ := byteW_framed.modifies byteW_steady (exec_tsetb h) (mask_s _)
    exact ⟨t, ht, hv, by rw [hf, flagS_apply]; rfl, frame⟩
  · obtain ⟨t, ht, hv, frame⟩ := wordW_framed.puts (o := exec (.tcc c d) s) (p := .reg d) (fetched s 0) rfl
    exact ⟨t, ht, fun j => (congrArg (BitVec.getLsbD · j) hv).trans (testCondition_getLsbD (by decide) _ _ _ j), frame⟩
  · obtain ⟨t, ht, hv, frame⟩ := byteW_framed.puts (o := exec (.tccb c d) s) (p := .reg d) (fetched s 0) rfl
    exact ⟨t, ht, fun j => (congrArg (BitVec.getLsbD · j) hv).trans (testCondition_getLsbD (by decide) _ _ _ j), frame⟩

/-! ### LDA and LDAR (R215, R216) -/

theorem State.loadAddress_segmented (h : s.segmented = true) (d : Reg) (a : Addr) :
    s.loadAddress d a = s.setLongReg d (segWord a ++ offset a) := if_pos h

theorem State.loadAddress_nonsegmented (h : s.segmented = false) (d : Reg) (a : Addr) :
    s.loadAddress d a = s.setReg d (offset a) := if_neg (by rw [h]; exact Bool.false_ne_true)

theorem loadAddress_gives (hu : Undisturbed s u) {a : Addr} (hx : o = .next (u.loadAddress d a)) :
    ∃ t, o = .next t ∧
      (s.segmented = true → t.reg d = segWord a ∧ t.reg (d + 1) = offset a ∧ LongFrame s t (.reg d) 0 s.rest) ∧
      (s.segmented = false → t.reg d = offset a ∧ WordFrame s t (.reg d) 0 s.rest) := by
  refine ⟨_, hx, fun hseg => ?_, fun hseg => ?_⟩
  · rw [State.loadAddress_segmented (hu.segmented.trans hseg)]
    refine ⟨?_, ?_, longW_framed.put hu (.reg d) _⟩
    · rw [State.reg_setLongReg, if_neg (reg_ne_succ d), if_pos rfl, append_high_16]
    · rw [State.reg_setLongReg, if_pos rfl, append_low_16]
  · rw [State.loadAddress_nonsegmented (hu.segmented.trans hseg)]
    exact ⟨u.reg_setReg_same d _, wordW_framed.put hu (.reg d) _⟩

/-- Settles O5. `State.loadAddress` writes a pair or a word register by the mode, which no fetch changes. -/
theorem loadAddressGivesTheAddress : Obligations.LoadAddressGivesTheAddress := by
  intro s d hd
  exact ⟨fun src hs => loadAddress_gives (.fetchExt s _) (exec_lda hs hd),
    fun disp => loadAddress_gives (.fetchExt s 1) (exec_ldar hd)⟩

end
end Sys2Proof.Machine

namespace Sys2Proof.Machine

open Sys2Proof

section

variable {s t u : State} {regs : List Reg} {stored : List Nat} {flags : Word} {rest : Rest}

/-! ### LDM (R218, R219)

A run of `k` words: the word `j` is at `addr_add(a, 2 * j)` and in the register `d + j`. -/

theorem State.addrAdd_run (s : State) (a : Addr) (j : Nat) :
    s.addrAdd (s.addrAdd a 2) (BitVec.ofNat 16 (2 * j)) = s.addrAdd a (BitVec.ofNat 16 (2 * (j + 1))) := by
  rw [State.addrAdd_addrAdd, Nat.mul_succ, BitVec.ofNat_add, BitVec.add_comm]
  rfl

theorem reg_run (d : Reg) (j : Nat) : d + 1 + BitVec.ofNat 4 j = d + BitVec.ofNat 4 (j + 1) := by
  rw [BitVec.ofNat_add, BitVec.add_assoc, BitVec.add_comm 1]
  rfl

theorem reg_run_zero (d : Reg) : d + BitVec.ofNat 4 0 = d := BitVec.add_zero d

/-- Within sixteen registers the first is not named again. -/
theorem reg_run_ne (d : Reg) {j : Nat} (hj : j < 15) : d ≠ d + BitVec.ofNat 4 (j + 1) := by
  intro h
  have := congrArg BitVec.toNat h
  rw [BitVec.toNat_add, BitVec.toNat_ofNat] at this
  omega

/-- A word access reads the bytes it touches. -/
theorem State.readWord_of_wordCells (s : State) (q : Role) {a b : Addr} (h : s.wordCells a = s.wordCells b) :
    s.readWord q a = s.readWord q b := by
  obtain ⟨high, low⟩ := List.cons.inj h
  replace low := (List.cons.inj low).1
  simp only [State.readWord, State.readByte, high, low]

theorem State.readWord_addrAdd_zero (hc : t.cfg = s.cfg) (q : Role) (a : Addr) :
    t.readWord q (s.addrAdd a (BitVec.ofNat 16 (2 * 0))) = t.readWord q a := by
  rw [← State.addrAdd_congr hc]
  exact t.readWord_of_wordCells q (t.wordCells_addrAdd_zero a)

/-! #### Into registers -/

theorem State.loadMultiple_succ (s : State) (a : Addr) (d : Reg) (k : Nat) :
    s.loadMultiple a d (k + 1) = (loadFrom wordW d a s).loadMultiple (s.addrAdd a 2) (d + 1) k := rfl

theorem State.loadMultiple_reg_other (s : State) (a : Addr) (d : Reg) (k : Nat) {m : Reg}
    (h : ∀ j < k, m ≠ d + BitVec.ofNat 4 j) : (s.loadMultiple a d k).reg m = s.reg m := by
  induction k generalizing s a d with
  | zero => rfl
  | succ k ih =>
    have first : m ≠ d := by simpa using h 0 (Nat.succ_pos k)
    rw [State.loadMultiple_succ, ih _ _ _ fun j hj => by rw [reg_run]; exact h (j + 1) (Nat.succ_lt_succ hj)]
    exact (State.reg_setReg_other _ first _).trans (s.touchWord_reg .data a m)

/-- Each word of memory is in its register: none of the sixteen is written twice. -/
theorem State.loadMultiple_reg (s : State) (a : Addr) (d : Reg) {j k : Nat} (hj : j < k) (hk : k ≤ 16) :
    (s.loadMultiple a d k).reg (d + BitVec.ofNat 4 j) = s.readWord .data (s.addrAdd a (BitVec.ofNat 16 (2 * j))) := by
  induction k generalizing s a d j with
  | zero => exact absurd hj (Nat.not_lt_zero j)
  | succ k ih =>
    rw [State.loadMultiple_succ]
    cases j with
    | zero =>
      have once : ∀ i < k, d ≠ d + 1 + BitVec.ofNat 4 i := fun i hi => by
        rw [reg_run]
        exact reg_run_ne d (by omega)
      rw [State.readWord_addrAdd_zero rfl, reg_run_zero, State.loadMultiple_reg_other _ _ _ _ once]
      exact State.reg_setReg_same _ d _
    | succ j =>
      rw [← reg_run, ih _ _ _ (Nat.lt_of_succ_lt_succ hj) (by omega), ← State.addrAdd_run]
      exact State.readWord_congr rfl rfl rfl _ _

theorem Frame.loadMultiple (h : Frame s t regs stored flags rest) (hg : rest.guards = s.guards) (a : Addr) (d : Reg)
    (k : Nat) (hr : ∀ j < k, d + BitVec.ofNat 4 j ∈ regs) : Frame s (t.loadMultiple a d k) regs stored flags rest := by
  induction k generalizing t a d with
  | zero => exact h
  | succ k ih =>
    have first : d ∈ regs := by simpa using hr 0 (Nat.succ_pos k)
    exact ih ((h.access _ _ hg).setReg d _ first) _ _ fun j hj => by
      rw [reg_run]
      exact hr (j + 1) (Nat.succ_lt_succ hj)

/-! #### Into memory -/

theorem State.storeMultiple_succ (s : State) (a : Addr) (r : Reg) (k : Nat) : s.storeMultiple a r (k + 1) =
    (s.writeWord .data a (s.reg r)).storeMultiple (s.addrAdd a 2) (r + 1) k := rfl

theorem Frame.storeMultiple (h : Frame s t regs stored flags rest) (hg : rest.guards = s.guards) (a : Addr) (r : Reg)
    (k : Nat) (hm : ∀ x ∈ t.runCells a k, x ∈ stored) : Frame s (t.storeMultiple a r k) regs stored flags rest := by
  induction k generalizing t a r with
  | zero => exact h
  | succ k ih =>
    rw [State.runCells_succ] at hm
    refine ih (h.writeWord .data a _ (fun x hx => hm x (List.mem_append_left _ hx)) hg) _ _ fun x hx => ?_
    rw [State.runCells_congr (State.writeWord_cfg _ _ _ _)] at hx
    exact hm x (List.mem_append_right _ hx)

theorem State.storeMultiple_read (s : State) (a : Addr) (r : Reg) (k : Nat) {b : Nat} (h : b ∉ s.runCells a k) :
    (s.storeMultiple a r k).mem.read b = s.mem.read b :=
  (Frame.storeMultiple ((Undisturbed.refl s).frame (regs := []) (flags := 0)) rfl a r k fun _ => id).mem b h

@[simp] theorem State.storeMultiple_cfg (s : State) (a : Addr) (r : Reg) (k : Nat) :
    (s.storeMultiple a r k).cfg = s.cfg :=
  (Frame.storeMultiple ((Undisturbed.refl s).frame (regs := []) (flags := 0)) rfl a r k fun _ => id).cfg

/-- The first word of a run is apart from the others. -/
theorem State.runCells_apart (s : State) (a : Addr) {k : Nat} (hk : k ≤ 15) :
    ∀ x ∈ s.wordCells a, x ∉ s.runCells (s.addrAdd a 2) k := by
  intro x hx hy
  obtain ⟨j, hj, hy⟩ := List.mem_flatMap.1 hy
  rw [State.addrAdd_run] at hy
  have ha := s.wordCells_offset hx
  have hb := s.wordCells_offset hy
  rw [State.addrAdd_toNat_mod, BitVec.toNat_ofNat] at hb
  have := List.mem_range.1 hj
  omega

/-- Memory holds the word of each register: the words of a run do not overlap. -/
theorem State.storeMultiple_readWord (s : State) (q : Role) (a : Addr) (r : Reg) {j k : Nat} (hj : j < k)
    (hk : k ≤ 16) : (s.storeMultiple a r k).bare.readWord q (s.addrAdd a (BitVec.ofNat 16 (2 * j))) =
      s.reg (r + BitVec.ofNat 4 j) := by
  induction k generalizing s a r j with
  | zero => exact absurd hj (Nat.not_lt_zero j)
  | succ k ih =>
    rw [State.storeMultiple_succ]
    have hc : (s.writeWord .data a (s.reg r)).cfg = s.cfg := State.writeWord_cfg _ _ _ _
    cases j with
    | zero =>
      have kept : ∀ x ∈ (s.writeWord .data a (s.reg r)).wordCells a,
          ((s.writeWord .data a (s.reg r)).storeMultiple (s.addrAdd a 2) (r + 1) k).mem.read x =
            (s.writeWord .data a (s.reg r)).mem.read x := fun x hx => by
        refine State.storeMultiple_read _ _ _ _ ?_
        rw [wordCells_congr hc] at hx
        rw [State.runCells_congr hc]
        exact s.runCells_apart a (by omega) x hx
      have cfg : ((s.writeWord .data a (s.reg r)).storeMultiple (s.addrAdd a 2) (r + 1) k).bare.cfg = s.cfg := by simp
      rw [State.readWord_addrAdd_zero cfg, State.bare_readWord_congr (State.storeMultiple_cfg _ _ _ _) kept,
        State.readWord_writeWord, reg_run_zero]
    | succ j =>
      rw [← State.addrAdd_run, ← reg_run, ← State.addrAdd_congr hc (s.addrAdd a 2),
        ih _ _ _ (Nat.lt_of_succ_lt_succ hj) (by omega), State.writeWord_reg]

/-- Settles O6, by induction on the words moved: no register and no byte of the run is written twice. -/
theorem loadMultipleMovesEveryWord : Obligations.LoadMultipleMovesEveryWord := by
  intro s m r n hm
  have short : n.toNat + 1 ≤ 16 := n.isLt
  refine ⟨⟨_, exec_ldm hm, fun j hj => ?_, ?_⟩, ⟨_, exec_ldmTo hm, fun j hj => ?_, ?_⟩⟩
  · rw [State.loadMultiple_reg _ _ _ (Nat.lt_succ_of_le hj) short, State.fetchExt_readWord, State.fetchExt_addrAdd]
  · refine Frame.loadMultiple (.fetchExt s _ _ _ _) rfl _ _ _ fun j hj => ?_
    exact List.mem_map.2 ⟨j, List.mem_range.2 hj, rfl⟩
  · show State.readWord .data _ (s.addrAdd _ _) = _
    rw [← s.fetchExt_addrAdd (m.extWords + 1), State.storeMultiple_readWord _ _ _ _ (Nat.lt_succ_of_le hj) short,
      State.fetchExt_reg]
  · refine Frame.storeMultiple (.fetchExt s _ _ _ _) rfl _ _ _ fun x hx => ?_
    rwa [State.runCells_congr (s.fetchExt_cfg _)] at hx

end
end Sys2Proof.Machine

namespace Sys2Proof.Machine

open Sys2Proof

section

variable {s t u : State} {d : Reg} {n : Nat} {w : Width n} {F : State → State → Place → Word → Rest → Prop}
  {src : RegMem} {k : Nat} {homes : State → Reg → List Reg} {cells : State → Addr → List Nat}

/-! ### EX and EXB (R220, R221) -/

/-- A write to a register changes no other place of the width: its registers do not overlap. -/
def Width.Separate (w : Width n) : Prop :=
  ∀ (u : State) (d : Reg) (v : BitVec n) (p : Place), p ≠ .reg d → p.get w (w.setReg u d v).bare = p.get w u.bare

theorem wordW_separate : wordW.Separate := fun u d v p h => by
  cases p with
  | reg r => exact u.reg_setReg_other (fun e => h (congrArg Place.reg e)) v
  | addr a => rfl

theorem byteW_separate : byteW.Separate := fun u d v p h => by
  cases p with
  | reg r => exact u.byteReg_setByteReg_other (fun e => h (congrArg Place.reg e)) v
  | addr a => rfl

theorem exchange_eq (w : Width n) (d : Reg) (src : RegMem) (s : State) : exchange w d src s =
    w.setReg ((src.place s).put w ((src.place s).touch w s) (w.getReg s d)) d ((src.place s).get w s) := rfl

/-- The operands of an exchange are those before its words are fetched. -/
theorem exchange_fetchExt (hs : w.Steady) : exchange w d src (s.fetchExt k) =
    w.setReg ((src.place s).put w ((src.place s).touch w (s.fetchExt k)) (w.getReg s d)) d ((src.place s).get w s) := by
  rw [exchange_eq, RegMem.place_fetchExt, Place.get_fetchExt s hs, hs.getReg]

theorem exchange_swaps (hw : w.Framed F) (hs : w.Steady) (hsep : w.Separate) (s : State) (d : Reg) (src : RegMem)
    (k : Nat) : (Place.reg d).get w (exchange w d src (s.fetchExt k)).bare = (src.place s).get w s ∧
      (src.place s).get w (exchange w d src (s.fetchExt k)).bare = w.getReg s d := by
  rw [exchange_fetchExt hs]
  refine ⟨hw.get_put _ (.reg d) _, ?_⟩
  by_cases same : src.place s = .reg d
  · rw [same]
    exact hw.get_put _ (.reg d) _
  · rw [hsep _ d _ _ same]
    exact hw.get_put _ _ _

theorem exchange_frame (hw : w.Keeps homes cells) (hs : w.Steady) (s : State) (d : Reg) (src : RegMem) (k : Nat) :
    Frame s (exchange w d src (s.fetchExt k)) (homes s d ++ (src.place s).homes (homes s))
      ((src.place s).cells (cells s)) 0 s.rest := by
  rw [exchange_fetchExt hs]
  have written := hw.put (hw.touchPlace (.fetchExt s k _ _ 0) (src.place s)) (src.place s) (w.getReg s d)
    (fun _ => List.mem_append_right (homes s d)) fun _ => id
  exact hw.setReg written d _ fun _ => List.mem_append_left _

/-- EXB leaves every other byte register. -/
theorem exchange_byteReg_other {j : Reg} (hd : j ≠ d) (hj : src ≠ .reg j) :
    (exchange byteW d src (s.fetchExt k)).byteReg j = s.byteReg j := by
  refine (State.byteReg_setByteReg_other _ hd _).trans ?_
  cases src with
  | reg r =>
    have hr : j ≠ r := fun e => hj (congrArg RegMem.reg e.symm)
    exact (State.byteReg_setByteReg_other _ hr _).trans (s.fetchExt_byteReg k j)
  | mem m => exact s.fetchExt_byteReg k j

/-- Settles O7: the place is written first, the register last. -/
theorem exchangeSwapsOperands : Obligations.ExchangeSwapsOperands := by
  intro s d src h
  obtain ⟨wd, wsrc⟩ := exchange_swaps wordW_framed wordW_steady wordW_separate s d src src.extWords
  obtain ⟨bd, bsrc⟩ := exchange_swaps byteW_framed byteW_steady byteW_separate s d src src.extWords
  have wframe := exchange_frame wordW_keeps wordW_steady s d src src.extWords
  have bframe := exchange_frame byteW_keeps byteW_steady s d src src.extWords
  refine ⟨⟨_, exec_ex h, wd, wsrc, ?_⟩, ⟨_, exec_exb h, bd, bsrc, fun j => exchange_byteReg_other, ?_⟩⟩
  · cases src with
    | reg r => exact wframe
    | mem m => exact wframe
  · cases src with
    | reg r => exact bframe
    | mem m => exact bframe

end
end Sys2Proof.Machine

namespace Sys2Proof.Machine

open Sys2Proof

section

variable {s t u : State} {o : Out} {p : Reg} {n : Nat} {w : Width n} {F : State → State → Place → Word → Rest → Prop}
  {homes : Reg → List Reg} {cells : State → Addr → List Nat} {v : BitVec n} {k : Word}

/-! ### PUSH and POP (R222 to R225, R228) -/

theorem State.stepPointer_reg_offsetReg (s : State) (p : Reg) (k : Word) :
    (s.stepPointer p k).reg (s.offsetReg p) = s.reg (s.offsetReg p) + k := s.reg_setReg_same _ _

/-- From `s` to `t` the value `v`, of `k` bytes `cells`, is pushed on the stack at `p`; `read` reads such a value. -/
structure Pushes (s t : State) (p : Reg) (k : Word) (read : State → Addr → BitVec n) (cells : Addr → List Nat)
    (v : BitVec n) : Prop where
  pointer : t.pointer p = (s.stepPointer p (-k)).pointer p
  offset  : t.reg (s.offsetReg p) = s.reg (s.offsetReg p) - k
  value   : read t.bare ((s.stepPointer p (-k)).pointer p) = v
  frame   : Frame s t [s.offsetReg p] (cells ((s.stepPointer p (-k)).pointer p)) 0 s.rest

/-- The stack pointer moved in a state in which the pointer is as in `s`. -/
theorem Undisturbed.stepPointer_pointer (hu : Undisturbed s u) (hp : u.pointer p = s.pointer p) :
    (u.stepPointer p k).pointer p = (s.stepPointer p k).pointer p := by
  rw [State.pointer_stepPointer, State.pointer_stepPointer, hp, State.addrAdd_congr hu.cfg]

theorem Undisturbed.stepPointer_offset (hu : Undisturbed s u) :
    (u.stepPointer p k).reg (s.offsetReg p) = s.reg (s.offsetReg p) + k := by
  rw [← hu.offsetReg, State.stepPointer_reg_offsetReg, hu.regs _ List.not_mem_nil]

theorem Undisturbed.pushWord (hu : Undisturbed s u) (hp : u.pointer p = s.pointer p) (v : Word) :
    Pushes s (u.pushWord p v) p 2 (State.readWord .stack) s.wordCells v where
  pointer := (State.writeWord_pointer ..).trans (hu.stepPointer_pointer hp)
  offset := (State.writeWord_reg ..).trans (hu.stepPointer_offset.trans (sub_eq_add_neg _ _).symm)
  value := by
    rw [← hu.stepPointer_pointer hp]
    exact u.readWord_pushWord .stack p v
  frame := (hu.frame.stepPointer p _ (by rw [hu.offsetReg]; exact List.mem_singleton_self _)).writeWord .stack _ v
    (by rw [State.stepPointer_wordCells, wordCells_congr hu.cfg, hu.stepPointer_pointer hp]; exact fun _ => id)

theorem Undisturbed.pushLong (hu : Undisturbed s u) (hp : u.pointer p = s.pointer p) (v : Long) :
    Pushes s (u.pushLong p v) p 4 (State.readLong .stack) s.longCells v where
  pointer := (State.writeLong_pointer ..).trans (hu.stepPointer_pointer hp)
  offset := (State.writeLong_reg ..).trans (hu.stepPointer_offset.trans (sub_eq_add_neg _ _).symm)
  value := by
    rw [← hu.stepPointer_pointer hp]
    exact u.readLong_pushLong .stack p v
  frame := (hu.frame.stepPointer p _ (by rw [hu.offsetReg]; exact List.mem_singleton_self _)).writeLong .stack _ v
    (by rw [State.stepPointer_longCells, longCells_congr hu.cfg, hu.stepPointer_pointer hp]; exact fun _ => id)

/-- R222: the source is read, then pushed. -/
theorem push_pushes {src : Source Word} (h : src.pairs s.segmented = true) (hp : ptrReg s.segmented p = true) :
    ∃ t, exec (.push p src) s = .next t ∧ Pushes s t p 2 (State.readWord .stack) s.wordCells (src.value wordW s) := by
  refine ⟨_, exec_push h hp, Undisturbed.pushWord (wordW_keeps.touchSource (Undisturbed.fetchExt s _) src) ?_ _⟩
  cases src <;> exact s.fetchExt_pointer _ p

theorem pushl_pushes {src : RegMem} (h : src.pairsL s.segmented = true) (hp : ptrReg s.segmented p = true) :
    ∃ t, exec (.pushl p src) s = .next t ∧
      Pushes s t p 4 (State.readLong .stack) s.longCells ((src.place s).get longW s) := by
  refine ⟨_, exec_pushl h hp, Undisturbed.pushLong (longW_framed.touch (.fetchExt s _) (src.place s)) ?_ _⟩
  cases src <;> exact s.fetchExt_pointer _ p

/-! #### Pops -/

/-- From `s` to `t` a value `v` of `k` bytes is popped from the stack at `p` into the place `d`, written last. -/
structure Pops (s t : State) (p : Reg) (k : Word) (w : Width n) (homes : Reg → List Reg) (cells : Addr → List Nat)
    (d : Place) (v : BitVec n) : Prop where
  value  : d.get w t.bare = v
  offset : s.offsetReg p ∉ d.homes homes → t.reg (s.offsetReg p) = s.reg (s.offsetReg p) + k
  frame  : Frame s t (d.homes homes ++ [s.offsetReg p]) (d.cells cells) 0 s.rest

theorem Width.Framed.pops (hF : w.Framed F) (hw : w.Keeps (fun _ => homes) cells) (h : Undisturbed s u) (d : Place)
    (v : BitVec n) : Pops s (d.put w (u.stepPointer p k) v) p k w homes (cells s) d v where
  value := hF.get_put _ d v
  offset hd :=
    ((hw.put (Undisturbed.refl (u.stepPointer p k)).frame (flags := 0) d v (fun _ => id) fun _ => id).regs _ hd).trans
      h.stepPointer_offset
  frame :=
    hw.put (h.frame.stepPointer p k (by rw [h.offsetReg]; simp)) d v (fun _ => List.mem_append_left _) fun _ => id

theorem pop_pops {dst : RegMem} (h : dst.pairs s.segmented = true) (hp : ptrReg s.segmented p = true) :
    ∃ t, exec (.pop dst p) s = .next t ∧
      Pops s t p 2 wordW (fun r => [r]) s.wordCells (dst.place s) (s.readWord .stack (s.pointer p)) :=
  ⟨_, exec_pop h hp, wordW_framed.pops wordW_keeps ((Undisturbed.fetchExt s _).access _ _) _ _⟩

theorem popl_pops {dst : RegMem} (h : dst.pairsL s.segmented = true) (hp : ptrReg s.segmented p = true) :
    ∃ t, exec (.popl dst p) s = .next t ∧
      Pops s t p 4 longW (fun r => [r, r + 1]) s.longCells (dst.place s) (s.readLong .stack (s.pointer p)) :=
  ⟨_, exec_popl h hp, longW_framed.pops longW_keeps ((Undisturbed.fetchExt s _).access _ _) _ _⟩

/-- Settles O8: the six forms are two pushes, `Pushes`, and two pops, `Pops`, each into a register or memory. -/
theorem pushesAndPopsMoveTheStack : Obligations.PushesAndPopsMoveTheStack := by
  refine ⟨fun s p hp => ⟨fun src h => ?_, fun src h => ?_⟩,
    fun s p hp => ⟨fun r => ?_, fun m h => ?_, fun r hr => ?_, fun m h => ?_⟩⟩
  · obtain ⟨t, ht, push⟩ := push_pushes h hp
    exact ⟨t, ht, push.offset, push.value, push.frame⟩
  · obtain ⟨t, ht, push⟩ := pushl_pushes h hp
    exact ⟨t, ht, push.offset, push.value, push.frame⟩
  · obtain ⟨t, ht, pop⟩ := pop_pops (dst := .reg r) rfl hp
    exact ⟨t, ht, pop.value, fun hr => pop.offset fun hm => hr (List.mem_singleton.1 hm).symm, pop.frame⟩
  · obtain ⟨t, ht, pop⟩ := pop_pops (dst := .mem m) h hp
    exact ⟨t, ht, pop.value, pop.offset List.not_mem_nil, pop.frame⟩
  · obtain ⟨t, ht, pop⟩ := popl_pops (dst := .reg r) hr hp
    exact ⟨t, ht, pop.value, pop.offset, pop.frame⟩
  · obtain ⟨t, ht, pop⟩ := popl_pops (dst := .mem m) h hp
    exact ⟨t, ht, pop.value, pop.offset List.not_mem_nil, pop.frame⟩

/-! #### A pop after a push -/

/-- Where the bus adaptor answers no read of the stack, a read of it is what memory holds. -/
theorem State.readWord_stack_bare (h : ∀ g ∈ s.guards, g.access ≠ .read .stack) (a : Addr) :
    s.readWord .stack a = s.bare.readWord .stack a := by
  have byte : ∀ b, s.readByte .stack b = s.bare.readByte .stack b := fun b =>
    (s.readByte_of_no_guard fun g hg hk => absurd hk (h g hg)).trans (s.bare_readByte .stack b).symm
  rw [State.readWord, State.readWord, byte, byte]

theorem State.readLong_stack_bare (h : ∀ g ∈ s.guards, g.access ≠ .read .stack) (a : Addr) :
    s.readLong .stack a = s.bare.readLong .stack a := by
  rw [State.readLong, State.readLong, State.readWord_stack_bare h, State.readWord_stack_bare h, State.bare_addrAdd]

section

variable {read : State → Addr → BitVec n} {cells : Addr → List Nat} {r : Reg}

theorem Pushes.guards (h : Pushes s t p k read cells v) : t.guards = s.guards := h.frame.rest.guards

/-- The stack pointer is back where it was. -/
theorem Pushes.pops_offset (h : Pushes s t p k read cells v) {w' : Width n} {homes : Reg → List Reg}
    {cells' : Addr → List Nat} {d : Place} {v' : BitVec n} (h' : Pops t u p k w' homes cells' d v')
    (hd : s.offsetReg p ∉ d.homes homes) :
    u.reg (s.offsetReg p) = s.reg (s.offsetReg p) := by
  rw [← h.frame.offsetReg] at hd
  have up := h'.offset hd
  rw [h.frame.offsetReg] at up
  rw [up, h.offset, sub_add_cancel]

end

/-- Settles O9: the pop reads where the push stored, and moves the stack pointer back. -/
theorem popUndoesPush : Obligations.PopUndoesPush := by
  intro s p q hp hq hg
  refine ⟨fun src h => ?_, fun src h even hq' => ?_⟩
  · obtain ⟨t, ht, push⟩ := push_pushes h hp
    obtain ⟨u, hu, pop⟩ := pop_pops (s := t) (dst := .reg q) rfl (by rwa [push.frame.segmented])
    refine ⟨t, u, ht, hu, ?_, push.pops_offset pop fun hm => hq (List.mem_singleton.1 hm).symm⟩
    rw [push.pointer, State.readWord_stack_bare (by rwa [push.guards]), push.value] at pop
    exact pop.value
  · obtain ⟨t, ht, push⟩ := pushl_pushes h hp
    obtain ⟨u, hu, pop⟩ := popl_pops (s := t) (dst := .reg q) even (by rwa [push.frame.segmented])
    have apart : s.offsetReg p ∉ [q, q + 1] := by simpa [hq.symm] using hq'
    refine ⟨t, u, ht, hu, ?_, push.pops_offset pop apart⟩
    rw [push.pointer, State.readLong_stack_bare (by rwa [push.guards]), push.value] at pop
    exact pop.value

end
end Sys2Proof.Machine

namespace Sys2Proof.Machine

open Sys2Proof

/-! ### Logical, test and bit operations on one operand (42_logical_bit.md)

The flags that describe a result (R300), the one bit a mask names (R316 to R328), and what the shapes of these
instructions leave, said once for the widths. -/

section

variable {s u : State} {n k j : Nat} {w : Width n} {F : State → State → Place → Word → Rest → Prop} {o : Out}
  {d r : Reg} {flags : Word} {dst : RegMem} {src : Source (BitVec n)}

/-! #### Flags of a logical result (R300) -/

theorem logicFlagsW_mask (q : WordLogicPv) (x : BitVec n) : (logicFlagsW q x).mask &&& ~~~flagsZSP = 0 := by
  cases q with
  | parityLowByte => exact mask_zsp _ _ _
  | unchanged =>
    have mask_zs : ∀ z s : Bool, ({ z := some z, s := some s } : FlagUpdate).mask &&& ~~~flagsZSP = 0 := by decide
    exact mask_zs _ _

theorem logicWide_apply (s : State) (x : BitVec n) :
    LogicWide s x ((logicFlagsW s.cfg.wordLogicPv x).apply s.fcw) := by
  refine ⟨⟨flagZ_apply _ _, flagS_apply _ _⟩, (flagPV_apply _ _).trans ?_⟩
  cases s.cfg.wordLogicPv with
  | parityLowByte => exact parity8_eq_evenOnes x
  | unchanged => rfl

/-! #### The mask of one bit -/

theorem getLsbD_twoPow_of_lt (k : Nat) (hj : j < n) : (BitVec.twoPow n k).getLsbD j = decide (j = k) := by
  rw [BitVec.getLsbD_twoPow, ← Bool.decide_and, decide_eq_decide]
  omega

/-- R322: the mask of a dynamic bit number; it is 0 where that number names no bit. -/
theorem dynamicMask_eq (q : BitdynBits) (n : Nat) (v : Word) :
    dynamicMask q n v = BitVec.twoPow n (dynamicBit q n v) := by
  cases q <;> rfl

theorem dynamicMask_fetchExt (s : State) (k n : Nat) (r : Reg) :
    dynamicMask (s.fetchExt k).cfg.bitdynBits n ((s.fetchExt k).reg r) =
      BitVec.twoPow n (dynamicBit s.cfg.bitdynBits n (s.reg r)) := by
  rw [State.fetchExt_cfg, State.fetchExt_reg, dynamicMask_eq]

/-- R316: Z is 1 where the bit is 0. A number beyond the width names a bit that is 0. -/
theorem testMask_z (k : Nat) (x : BitVec n) : (testMask (BitVec.twoPow n k) x).z = some (!x.getLsbD k) := by
  have zero : isZero (x &&& BitVec.twoPow n k) = !x.getLsbD k := by
    rw [isZero, BitVec.and_twoPow]
    cases hx : x.getLsbD k with
    | false => exact beq_self_eq_true _
    | true =>
      have inWidth : (BitVec.twoPow n k).getLsbD k = true := by
        rw [getLsbD_twoPow_of_lt k (BitVec.lt_of_getLsbD hx), decide_eq_true rfl]
      have ne : BitVec.twoPow n k ≠ 0#n := fun h => by simp [h] at inWidth
      exact beq_eq_false_iff_ne.2 ne
  exact congrArg some zero

theorem testMask_mask (m x : BitVec n) : (testMask m x).mask &&& ~~~0x0040 = 0 := by
  have mask_z : ∀ z : Bool, ({ z := some z } : FlagUpdate).mask &&& ~~~0x0040 = 0 := by decide
  exact mask_z _

theorem setMask_getLsbD (k : Nat) (x : BitVec n) (hj : j < n) :
    (setMask (BitVec.twoPow n k) x).1.getLsbD j = (decide (j = k) || x.getLsbD j) := by
  rw [setMask, BitVec.getLsbD_or, getLsbD_twoPow_of_lt k hj, Bool.or_comm]

theorem resetMask_getLsbD (k : Nat) (x : BitVec n) (hj : j < n) :
    (resetMask (BitVec.twoPow n k) x).1.getLsbD j = (!decide (j = k) && x.getLsbD j) := by
  rw [resetMask, BitVec.getLsbD_and, BitVec.getLsbD_not, getLsbD_twoPow_of_lt k hj, decide_eq_true hj, Bool.true_and,
    Bool.and_comm]

/-! #### What the shapes leave -/

theorem Width.Framed.touchSource (hw : w.Framed F) (hu : Undisturbed s u) (src : Source (BitVec n)) :
    Undisturbed s (src.touch w u) :=
  match src with
  | .reg _ | .imm _ => hu
  | .mem m => hw.touch hu (.addr (m.ea u))

theorem binary_eq (w : Width n) (d : Reg) (src : Source (BitVec n)) (op : BitVec n → BitVec n → BitVec n × FlagUpdate)
    (s : State) :
    binary w d src op s = ((Place.reg d).put w (src.touch w s) (op (w.getReg s d) (src.value w s)).1).setFlags
      (op (w.getReg s d) (src.value w s)).2 := rfl

/-- A register combined with a source, with flags. -/
theorem Width.Framed.combines (hw : w.Framed F) (hs : w.Steady)
    {op : BitVec n → BitVec n → BitVec n × FlagUpdate} (hx : o = .next (binary w d src op (s.fetchExt k)))
    (hf : (op (w.getReg s d) (src.value w s)).2.mask &&& ~~~flags = 0) :
    ∃ t, o = .next t ∧ (Place.reg d).get w t.bare = (op (w.getReg s d) (src.value w s)).1 ∧
      t.fcw = (op (w.getReg s d) (src.value w s)).2.apply s.fcw ∧ F s t (.reg d) flags s.rest := by
  have hu := hw.touchSource (.fetchExt s k) src
  rw [binary_eq, hs.getReg, Source.value_fetchExt s hs] at hx
  refine ⟨_, hx, ?_, ?_, hw.setFlags (hw.put hu _ _) hf⟩
  · rw [hw.get_setFlags, hw.get_put]
  · rw [State.setFlags_fcw, hw.fcw_put, hu.fcw_eq]

theorem inspect_eq (w : Width n) (dst : RegMem) (op : BitVec n → FlagUpdate) (s : State) :
    inspect w dst op s = ((dst.place s).touch w s).setFlags (op ((dst.place s).get w s)) := rfl

/-- The flags of an operand that is only read. -/
theorem Width.Framed.inspects (hw : w.Framed F) (hs : w.Steady) {op : BitVec n → FlagUpdate}
    (hx : o = .next (inspect w dst op (s.fetchExt k))) (hf : (op ((dst.place s).get w s)).mask &&& ~~~flags = 0) :
    ∃ t, o = .next t ∧ t.fcw = (op ((dst.place s).get w s)).apply s.fcw ∧ Frame s t [] [] flags s.rest := by
  have hu := hw.touch (.fetchExt s k) (dst.place s)
  rw [inspect_eq, RegMem.place_fetchExt, Place.get_fetchExt s hs] at hx
  exact ⟨_, hx, by rw [State.setFlags_fcw, hu.fcw_eq], hu.frame.setFlags _ hf⟩

/-- R316, R317, R323, R324. -/
theorem Width.Framed.testsBit (hw : w.Framed F) (hs : w.Steady) {i : Nat}
    (hx : o = .next (inspect w dst (testMask (BitVec.twoPow n i)) (s.fetchExt k))) :
    ∃ t, o = .next t ∧ flagZ t.fcw = !((dst.place s).get w s).getLsbD i ∧ Frame s t [] [] 0x0040 s.rest := by
  obtain ⟨t, ht, hfcw, frame⟩ := hw.inspects hs hx (testMask_mask _ _)
  exact ⟨t, ht, by rw [hfcw, flagZ_apply, testMask_z]; rfl, frame⟩

theorem mask_none : ({} : FlagUpdate).mask &&& ~~~0 = 0 := by decide

/-- R318, R319, R325, R326. -/
theorem Width.Framed.setsBit (hw : w.Framed F) (hs : w.Steady) {i : Nat}
    (hx : o = .next (modify w dst (setMask (BitVec.twoPow n i)) (s.fetchExt k))) :
    ∃ t, o = .next t ∧
      (∀ j, j < n → ((dst.place s).get w t.bare).getLsbD j =
        (decide (j = i) || ((dst.place s).get w s).getLsbD j)) ∧
      F s t (dst.place s) 0 s.rest := by
  obtain ⟨t, ht, hv, -, frame⟩ := hw.modifies hs hx mask_none
  exact ⟨t, ht, fun j hj => by rw [hv, setMask_getLsbD i _ hj], frame⟩

/-- R320, R321, R327, R328. -/
theorem Width.Framed.resetsBit (hw : w.Framed F) (hs : w.Steady) {i : Nat}
    (hx : o = .next (modify w dst (resetMask (BitVec.twoPow n i)) (s.fetchExt k))) :
    ∃ t, o = .next t ∧
      (∀ j, j < n → ((dst.place s).get w t.bare).getLsbD j =
        (!decide (j = i) && ((dst.place s).get w s).getLsbD j)) ∧
      F s t (dst.place s) 0 s.rest := by
  obtain ⟨t, ht, hv, -, frame⟩ := hw.modifies hs hx mask_none
  exact ⟨t, ht, fun j hj => by rw [hv, resetMask_getLsbD i _ hj], frame⟩

end

end Sys2Proof.Machine

namespace Sys2Proof.Machine

open Sys2Proof

section

variable {s : State} {d r : Reg} {dst : RegMem} {o : Out} {k : Nat}

/-! ### AND, OR and XOR (R300 to R306) -/

/-- A word operation that acts on each bit as `f` does. -/
theorem wordLogic_combines {op : Word → Word → Word} {f : Bool → Bool → Bool} {src : Source Word}
    (bits : ∀ a b j, (op a b).getLsbD j = f (a.getLsbD j) (b.getLsbD j))
    (hx : o = .next (binary wordW d src (logicW s.cfg.wordLogicPv op) (s.fetchExt k))) :
    ∃ t, o = .next t ∧
      (∀ j, j < 16 → (t.reg d).getLsbD j = f ((s.reg d).getLsbD j) ((src.value wordW s).getLsbD j)) ∧
      LogicWide s (t.reg d) t.fcw ∧ WordFrame s t (.reg d) flagsZSP s.rest := by
  obtain ⟨t, ht, hv, hfcw, frame⟩ := wordW_framed.combines wordW_steady hx (logicFlagsW_mask _ _)
  have result : t.reg d = op (s.reg d) (src.value wordW s) := hv
  refine ⟨t, ht, fun j _ => ?_, ?_, frame⟩
  · rw [result, bits]
  · rw [hfcw, result]
    exact logicWide_apply s _

/-- A byte operation that acts on each bit as `f` does. -/
theorem byteLogic_combines {op : Byte → Byte → Byte} {f : Bool → Bool → Bool} {src : Source Byte}
    (bits : ∀ a b j, (op a b).getLsbD j = f (a.getLsbD j) (b.getLsbD j))
    (hx : o = .next (binary byteW d src (logicB op) (s.fetchExt k))) :
    ∃ t, o = .next t ∧
      (∀ j, j < 8 → (t.byteReg d).getLsbD j = f ((s.byteReg d).getLsbD j) ((src.value byteW s).getLsbD j)) ∧
      LogicByte (t.byteReg d) t.fcw ∧ ByteFrame s t (.reg d) flagsZSP s.rest := by
  obtain ⟨t, ht, hv, hfcw, frame⟩ := byteW_framed.combines byteW_steady hx (mask_zsp _ _ _)
  have result : t.byteReg d = op (s.byteReg d) (src.value byteW s) := hv
  refine ⟨t, ht, fun j _ => ?_, ?_, frame⟩
  · rw [result, bits]
  · rw [hfcw, result]
    exact logicByte_apply _ _

/-- Settles O20: each of the six combines a register with a source, bit by bit. -/
theorem logicalOperationsActBitwise : Obligations.LogicalOperationsActBitwise := by
  intro s d
  exact ⟨fun src h => wordLogic_combines (fun _ _ _ => BitVec.getLsbD_and) (need_of .oddPair _ h),
    fun src h => wordLogic_combines (fun _ _ _ => BitVec.getLsbD_or) (need_of .oddPair _ h),
    fun src h => wordLogic_combines (fun _ _ _ => BitVec.getLsbD_xor) (need_of .oddPair _ h),
    fun src h => byteLogic_combines (fun _ _ _ => BitVec.getLsbD_and) (need_of .oddPair _ h),
    fun src h => byteLogic_combines (fun _ _ _ => BitVec.getLsbD_or) (need_of .oddPair _ h),
    fun src h => byteLogic_combines (fun _ _ _ => BitVec.getLsbD_xor) (need_of .oddPair _ h)⟩

/-! ### COM and TEST (R307 to R311) -/

theorem getLsbD_xor_allOnes {n j : Nat} (x : BitVec n) (hj : j < n) :
    (x ^^^ BitVec.allOnes n).getLsbD j = !x.getLsbD j := by
  rw [BitVec.xor_allOnes, BitVec.getLsbD_not, decide_eq_true hj, Bool.true_and]

theorem com_complements (h : dst.pairs s.segmented = true) : ∃ t, exec (.com dst) s = .next t ∧
    (∀ j, j < 16 → ((dst.place s).get wordW t.bare).getLsbD j = !((dst.place s).get wordW s).getLsbD j) ∧
    LogicWide s ((dst.place s).get wordW t.bare) t.fcw ∧ WordFrame s t (dst.place s) flagsZSP s.rest := by
  obtain ⟨t, ht, hv, hfcw, frame⟩ :=
    wordW_framed.modifies (o := exec (.com dst) s) wordW_steady (need_of .oddPair _ h) (logicFlagsW_mask _ _)
  refine ⟨t, ht, fun j hj => ?_, ?_, frame⟩
  · rw [hv]
    exact getLsbD_xor_allOnes _ hj
  · rw [hfcw, hv]
    exact logicWide_apply s _

theorem comb_complements (h : dst.pairs s.segmented = true) : ∃ t, exec (.comb dst) s = .next t ∧
    (∀ j, j < 8 → ((dst.place s).get byteW t.bare).getLsbD j = !((dst.place s).get byteW s).getLsbD j) ∧
    LogicByte ((dst.place s).get byteW t.bare) t.fcw ∧ ByteFrame s t (dst.place s) flagsZSP s.rest := by
  obtain ⟨t, ht, hv, hfcw, frame⟩ :=
    byteW_framed.modifies (o := exec (.comb dst) s) byteW_steady (need_of .oddPair _ h) (mask_zsp _ _ _)
  refine ⟨t, ht, fun j hj => ?_, ?_, frame⟩
  · rw [hv]
    exact getLsbD_xor_allOnes _ hj
  · rw [hfcw, hv]
    exact logicByte_apply _ _

/-- R309, R311: a word or a long that is only read. -/
theorem Width.Framed.testsWide {n : Nat} {w : Width n} {F : State → State → Place → Word → Rest → Prop}
    (hw : w.Framed F) (hs : w.Steady)
    (hx : o = .next (inspect w dst (logicFlagsW s.cfg.wordLogicPv) (s.fetchExt k))) :
    ∃ t, o = .next t ∧ LogicWide s ((dst.place s).get w s) t.fcw ∧ Frame s t [] [] flagsZSP s.rest := by
  obtain ⟨t, ht, hfcw, frame⟩ := hw.inspects hs hx (logicFlagsW_mask _ _)
  exact ⟨t, ht, by rw [hfcw]; exact logicWide_apply s _, frame⟩

theorem testb_tests (h : dst.pairs s.segmented = true) : ∃ t, exec (.testb dst) s = .next t ∧
    LogicByte ((dst.place s).get byteW s) t.fcw ∧ Frame s t [] [] flagsZSP s.rest := by
  obtain ⟨t, ht, hfcw, frame⟩ :=
    byteW_framed.inspects (o := exec (.testb dst) s) byteW_steady (need_of .oddPair _ h) (mask_zsp _ _ _)
  exact ⟨t, ht, by rw [hfcw]; exact logicByte_apply _ _, frame⟩

/-- Settles O21: COM is a read-modify-write of one place, TEST a read of one. -/
theorem complementsAndTestsSetLogicFlags : Obligations.ComplementsAndTestsSetLogicFlags := by
  intro s dst
  exact ⟨com_complements, comb_complements,
    fun h => wordW_framed.testsWide wordW_steady (need_of .oddPair _ h), testb_tests,
    fun h => longW_framed.testsWide longW_steady (need_of .oddPair _ h)⟩

/-! ### BIT, SET and RES (R316 to R328) -/

/-- Settles O22: each of the six tests, sets or resets the bit its mask names, which for a byte is by the number
modulo 8. -/
theorem staticBitInstructionsTouchOneBit : Obligations.StaticBitInstructionsTouchOneBit := by
  intro s dst b h w y
  have legal : ∀ {x : Out}, need (dst.pairs s.segmented) .oddPair x = x := need_of .oddPair _ h
  exact ⟨wordW_framed.testsBit wordW_steady legal, byteW_framed.testsBit byteW_steady legal,
    wordW_framed.setsBit wordW_steady legal, byteW_framed.setsBit byteW_steady legal,
    wordW_framed.resetsBit wordW_steady legal, byteW_framed.resetsBit byteW_steady legal⟩

/-- An effect through the mask of a dynamic bit number: the fetch of the instruction's word changes no such number. -/
theorem finish_dynamicMask (s : State) (r : Reg) {n : Nat} (g : BitVec n → State → State) :
    finish s 1 (fun t => g (dynamicMask t.cfg.bitdynBits n (t.reg r)) t) =
      .next (g (BitVec.twoPow n (dynamicBit s.cfg.bitdynBits n (s.reg r))) (s.fetchExt 1)) := by
  rw [← dynamicMask_fetchExt s 1]
  rfl

/-- Settles O23: a register is an operand like those of O22, and the bit number is the one of `dynamicBit`. -/
theorem dynamicBitInstructionsTouchOneBit : Obligations.DynamicBitInstructionsTouchOneBit := by
  intro s d r k l
  exact ⟨wordW_framed.testsBit wordW_steady (finish_dynamicMask s r fun m => inspect wordW (.reg d) (testMask m)),
    byteW_framed.testsBit byteW_steady (finish_dynamicMask s r fun m => inspect byteW (.reg d) (testMask m)),
    wordW_framed.setsBit wordW_steady (finish_dynamicMask s r fun m => modify wordW (.reg d) (setMask m)),
    byteW_framed.setsBit byteW_steady (finish_dynamicMask s r fun m => modify byteW (.reg d) (setMask m)),
    wordW_framed.resetsBit wordW_steady (finish_dynamicMask s r fun m => modify wordW (.reg d) (resetMask m)),
    byteW_framed.resetsBit byteW_steady (finish_dynamicMask s r fun m => modify byteW (.reg d) (resetMask m))⟩

end

end Sys2Proof.Machine

namespace Sys2Proof.Machine

open Sys2Proof

/-! ### One register modified with free values (43_shift_rotate.md)

A draw taken (log 4) leaves places and frames as they are. What a modified register then holds, whatever the free
values, is said once for the widths. -/

section

variable {s : State} {flags : Word} {n k : Nat} {w : Width n} {F : State → State → Place → Word → Rest → Prop} {o : Out}
  {d : Reg}

/-- A width whose places and whose frame of one place a draw leaves alone. -/
structure Width.Drawable (w : Width n) (F : State → State → Place → Word → Rest → Prop) : Prop where
  frame : ∀ {s t : State} {p : Place} {flags : Word} {r : Rest}, F s t p flags r →
    F s t.drawn p flags { r with draws := r.draws + 1 }
  get   : ∀ (t : State) (p : Place), p.get w t.drawn.bare = p.get w t.bare

theorem byteW_drawable : byteW.Drawable ByteFrame where
  frame {_ t p _ _} h := by
    cases p with
    | reg k => exact ⟨h.1.drawn, fun j hj => (t.drawn_byteReg j).trans (h.2 j hj)⟩
    | addr a => exact Frame.drawn h
  get t p := by cases p <;> rfl

theorem wordW_drawable : wordW.Drawable WordFrame where
  frame {_ _ p _ _} h := by cases p <;> exact Frame.drawn h
  get t p := by cases p <;> rfl

theorem longW_drawable : longW.Drawable LongFrame where
  frame {_ _ p _ _} h := by cases p <;> exact Frame.drawn h
  get t p := by cases p <;> rfl

theorem modifyRegDraw_eq (w : Width n) (d : Reg) (op : Draw → BitVec n → BitVec n × FlagUpdate) (s : State) :
    modifyRegDraw w d op s = (((Place.reg d).put w s (op s.draw (w.getReg s d)).1).setFlags
      (op s.draw (w.getReg s d)).2).drawn := rfl

/-- What holds of the result and the flags of an operation whatever the free values, holds of the register and FCW. -/
theorem Width.Framed.modifiesDraw (hw : w.Framed F) (hs : w.Steady) (hd : w.Drawable F)
    {op : Draw → BitVec n → BitVec n × FlagUpdate} (hx : o = .next (modifyRegDraw w d op (s.fetchExt k)))
    (hf : ∀ free, (op free (w.getReg s d)).2.mask &&& ~~~flags = 0) {P : BitVec n → Word → Prop}
    (hP : ∀ free, P (op free (w.getReg s d)).1 ((op free (w.getReg s d)).2.apply s.fcw)) :
    ∃ t, o = .next t ∧ P ((Place.reg d).get w t.bare) t.fcw ∧ F s t (.reg d) flags s.restDrawn := by
  have hu := Undisturbed.fetchExt s k
  rw [modifyRegDraw_eq, hs.getReg] at hx
  refine ⟨_, hx, ?_, hd.frame (hw.setFlags (hw.put hu _ _) (hf _))⟩
  rw [hd.get, hw.get_setFlags, hw.get_put, State.drawn_fcw, State.setFlags_fcw, hw.fcw_put, hu.fcw_eq]
  exact hP _

/-! #### Flags of shifts and rotates (R363, R364) -/

/-- The flags of a shift or a rotate with the result `r`: Z and S describe it. -/
def resultFlags (c pv : Bool) (r : BitVec n) : FlagUpdate :=
  { c := some c, z := some (isZero r), s := some r.msb, pv := some pv }

theorem mask_czsp (c z s pv : Bool) :
    ({ c := some c, z := some z, s := some s, pv := some pv } : FlagUpdate).mask &&& ~~~flagsCZSP = 0 := by
  revert c z s pv
  decide

theorem resultFlags_zeroSign (c pv : Bool) (r : BitVec n) (f : Word) : ZeroSign r ((resultFlags c pv r).apply f) :=
  ⟨flagZ_apply _ _, flagS_apply _ _⟩

theorem resultFlags_c (c pv : Bool) (r : BitVec n) (f : Word) : flagC ((resultFlags c pv r).apply f) = c :=
  flagC_apply _ _

theorem resultFlags_pv (c pv : Bool) (r : BitVec n) (f : Word) : flagPV ((resultFlags c pv r).apply f) = pv :=
  flagPV_apply _ _

/-- R364: PV by the signs of the steps is what `SignFlag` allows, whatever the free value. -/
theorem signFlag_of_signChange {s0 free : Bool} {path : List Bool} {f : Word}
    (h : flagPV f = signChange s0 path free) : SignFlag s0 path f := by
  refine ⟨fun last => ?_, fun same => ?_⟩
  · have final : (path.getLast?.getD s0 != s0) = true := by simp [last]
    have any : path.any (· != s0) = true :=
      List.any_eq_true.2 ⟨!s0, List.mem_of_getLast? last, by simp⟩
    rw [h, signChange, final, any]
    rfl
  · have none : path.any (· != s0) = false :=
      List.any_eq_false.2 fun b hb => by simp [same b hb]
    have final : (path.getLast?.getD s0 != s0) = false := by
      cases hl : path.getLast? with
      | none => simp
      | some b => simp [same b (List.mem_of_getLast? hl)]
    rw [h, signChange, none, final]
    rfl

end
end Sys2Proof.Machine

namespace Sys2Proof.Machine

open Sys2Proof

section

variable {n : Nat} {left carry c : Bool} {x : BitVec n} {f : Nat → BitVec n}

/-! ### Rotates as repeated single-bit steps (R341 to R348) -/

/-! #### Rotation one bit at a time -/

theorem rotateLeft_zero (x : BitVec n) : x.rotateLeft 0 = x := by
  apply BitVec.eq_of_getMsbD_eq
  intro j hj
  rw [BitVec.getMsbD_rotateLeft, Nat.zero_add, Nat.mod_eq_of_lt hj, decide_eq_true hj, Bool.true_and]

theorem rotateLeft_succ (x : BitVec n) (k : Nat) : x.rotateLeft (k + 1) = (x.rotateLeft k).rotateLeft 1 := by
  apply BitVec.eq_of_getMsbD_eq
  intro j hj
  have inWidth : (1 + j) % n < n := Nat.mod_lt _ (by omega)
  rw [BitVec.getMsbD_rotateLeft, BitVec.getMsbD_rotateLeft, BitVec.getMsbD_rotateLeft, decide_eq_true inWidth,
    Bool.true_and, Nat.add_mod_mod, Nat.add_assoc]

theorem getLsbD_rotateRight_mod {j : Nat} (x : BitVec n) (k : Nat) (hj : j < n) :
    (x.rotateRight k).getLsbD j = x.getLsbD ((k + j) % n) := by
  have hk : k % n < n := Nat.mod_lt _ (by omega)
  rw [BitVec.getLsbD_rotateRight, ← Nat.mod_add_mod]
  by_cases inside : j < n - k % n
  · rw [Nat.mod_eq_of_lt (by omega : k % n + j < n), decide_eq_true inside, cond_true]
  · rw [Nat.mod_eq_sub_mod (by omega : n ≤ k % n + j), Nat.mod_eq_of_lt (by omega : k % n + j - n < n),
      decide_eq_false inside, cond_false, decide_eq_true hj, Bool.true_and]
    congr 1
    omega

theorem rotateRight_zero (x : BitVec n) : x.rotateRight 0 = x := by
  apply BitVec.eq_of_getLsbD_eq
  intro j hj
  rw [getLsbD_rotateRight_mod x 0 hj, Nat.zero_add, Nat.mod_eq_of_lt hj]

theorem rotateRight_succ (x : BitVec n) (k : Nat) : x.rotateRight (k + 1) = (x.rotateRight k).rotateRight 1 := by
  apply BitVec.eq_of_getLsbD_eq
  intro j hj
  rw [getLsbD_rotateRight_mod x _ hj, getLsbD_rotateRight_mod _ 1 hj,
    getLsbD_rotateRight_mod x k (Nat.mod_lt _ (by omega)), Nat.add_mod_mod, Nat.add_assoc]

theorem getLsbD_rotateLeft_one {j : Nat} (x : BitVec n) (hj : j < n) :
    (x.rotateLeft 1).getLsbD j = if j = 0 then x.msb else x.getLsbD (j - 1) := by
  rw [BitVec.msb_eq_getLsbD_last]
  obtain rfl | wide : n = 1 ∨ 1 < n := by omega
  · obtain rfl : j = 0 := by omega
    simp
  · rw [BitVec.getLsbD_rotateLeft, Nat.mod_eq_of_lt wide]
    split
    next lowest => simp [lowest]
    next later => rw [decide_eq_false (by omega), cond_false, decide_eq_true hj, Bool.true_and]

theorem getLsbD_rotateRight_one {j : Nat} (x : BitVec n) (hj : j < n) :
    (x.rotateRight 1).getLsbD j = if j = n - 1 then x.getLsbD 0 else x.getLsbD (j + 1) := by
  rw [getLsbD_rotateRight_mod x 1 hj]
  split
  next last => rw [show 1 + j = n by omega, Nat.mod_self]
  next inner => rw [Nat.mod_eq_of_lt (by omega), Nat.add_comm]

/-! #### The single-bit step of the statement -/

theorem getLsbD_rotateOnce_left {j : Nat} (carry : Bool) (p : Bool × BitVec n) (hj : j < n) :
    (rotateOnce true carry p).2.getLsbD j =
      if j = 0 then (if carry then p.1 else p.2.msb) else p.2.getLsbD (j - 1) := by
  split
  next lowest =>
    subst lowest
    simp [rotateOnce, hj]
  next later => simp [rotateOnce, hj, later, -BitVec.getLsbD_eq_getElem]

theorem getLsbD_rotateOnce_right {j : Nat} (carry : Bool) (p : Bool × BitVec n) (hj : j < n) :
    (rotateOnce false carry p).2.getLsbD j =
      if j = n - 1 then (if carry then p.1 else p.2.getLsbD 0) else p.2.getLsbD (j + 1) := by
  split
  next last =>
    subst last
    have past : n ≤ 1 + (n - 1) := by omega
    simp [rotateOnce, hj, BitVec.getLsbD_of_ge _ _ past]
  next inner =>
    have low : j < n - 1 := by omega
    simp [rotateOnce, low, Nat.add_comm]

theorem rotateOnce_left (p : Bool × BitVec n) : rotateOnce true false p = (p.2.msb, p.2.rotateLeft 1) := by
  refine Prod.ext rfl (BitVec.eq_of_getLsbD_eq fun j hj => ?_)
  rw [getLsbD_rotateOnce_left false p hj, getLsbD_rotateLeft_one p.2 hj, if_neg Bool.false_ne_true]

theorem rotateOnce_right (p : Bool × BitVec n) : rotateOnce false false p = (p.2.getLsbD 0, p.2.rotateRight 1) := by
  refine Prod.ext rfl (BitVec.eq_of_getLsbD_eq fun j hj => ?_)
  rw [getLsbD_rotateOnce_right false p hj, getLsbD_rotateRight_one p.2 hj, if_neg Bool.false_ne_true]

/-- The carry and the operand as one value of one more bit (R343, R347). -/
def withCarry (p : Bool × BitVec n) : BitVec (1 + n) := BitVec.ofBool p.1 ++ p.2

theorem withCarry_msb (p : Bool × BitVec n) : (withCarry p).msb = p.1 := by
  rw [withCarry, BitVec.msb_append, if_neg (by decide), BitVec.msb_ofBool]

theorem withCarry_setWidth (p : Bool × BitVec n) : (withCarry p).setWidth n = p.2 := by
  simp [withCarry, BitVec.setWidth_append]

theorem withCarry_getLsbD (p : Bool × BitVec n) {j : Nat} (hj : j < 1 + n) :
    (withCarry p).getLsbD j = if j < n then p.2.getLsbD j else p.1 := by
  rw [withCarry, BitVec.getLsbD_append]
  by_cases h : j < n
  · simp [h]
  · have : j - n = 0 := by omega
    simp [h, this]

theorem withCarry_rotateOnce_left (hn : 0 < n) (p : Bool × BitVec n) :
    withCarry (rotateOnce true true p) = (withCarry p).rotateLeft 1 := by
  apply BitVec.eq_of_getLsbD_eq
  intro j hj
  rw [getLsbD_rotateLeft_one _ hj, withCarry_msb, withCarry_getLsbD _ hj, withCarry_getLsbD _ (by omega : j - 1 < 1 + n),
    if_pos (by omega : j - 1 < n)]
  split
  next low => exact getLsbD_rotateOnce_left true p low
  next top =>
    obtain rfl : j = n := by omega
    rw [if_neg (by omega), ← BitVec.msb_eq_getLsbD_last]
    rfl

theorem withCarry_rotateOnce_right (hn : 0 < n) (p : Bool × BitVec n) :
    withCarry (rotateOnce false true p) = (withCarry p).rotateRight 1 := by
  apply BitVec.eq_of_getLsbD_eq
  intro j hj
  rw [getLsbD_rotateRight_one _ hj, withCarry_getLsbD _ hj, withCarry_getLsbD _ (by omega : 0 < 1 + n), if_pos hn]
  split
  next low =>
    rw [getLsbD_rotateOnce_right true p low, if_neg (by omega : j ≠ 1 + n - 1),
      withCarry_getLsbD _ (by omega : j + 1 < 1 + n)]
    split
    next last => rw [if_pos rfl, if_neg (by omega : ¬ j + 1 < n)]
    next inner => rw [if_pos (by omega : j + 1 < n)]
  next top =>
    rw [if_pos (by omega)]
    rfl

/-! #### Any number of steps -/

theorem rotateTimes_left (c : Bool) (x : BitVec n) : ∀ k, (rotateTimes true false (c, x) k).2 = x.rotateLeft k
  | 0 => (rotateLeft_zero _).symm
  | k + 1 => by rw [rotateTimes, rotateOnce_left, rotateTimes_left c x k, rotateLeft_succ x k]

theorem rotateTimes_right (c : Bool) (x : BitVec n) : ∀ k, (rotateTimes false false (c, x) k).2 = x.rotateRight k
  | 0 => (rotateRight_zero _).symm
  | k + 1 => by rw [rotateTimes, rotateOnce_right, rotateTimes_right c x k, rotateRight_succ x k]

theorem withCarry_rotateTimes_left (hn : 0 < n) (p : Bool × BitVec n) :
    ∀ k, withCarry (rotateTimes true true p k) = (withCarry p).rotateLeft k
  | 0 => (rotateLeft_zero _).symm
  | k + 1 => by
    rw [rotateTimes, withCarry_rotateOnce_left hn, withCarry_rotateTimes_left hn p k, rotateLeft_succ _ k]

theorem withCarry_rotateTimes_right (hn : 0 < n) (p : Bool × BitVec n) :
    ∀ k, withCarry (rotateTimes false true p k) = (withCarry p).rotateRight k
  | 0 => (rotateRight_zero _).symm
  | k + 1 => by
    rw [rotateTimes, withCarry_rotateOnce_right hn, withCarry_rotateTimes_right hn p k, rotateRight_succ _ k]

end
end Sys2Proof.Machine

namespace Sys2Proof.Machine

open Sys2Proof

section

variable {s : State} {n k : Nat} {left carry c : Bool} {x : BitVec n} {f : Nat → BitVec n} {w : Width n}
  {F : State → State → Place → Word → Rest → Prop} {o : Out} {d : Reg}

/-! ### The rotates of the model -/

/-- A rotate is right if its value after each number of steps is, and its carry out. -/
theorem rotateResult_of_steps {out free : Bool} {old : Word} (hf : ∀ j, (rotateTimes left carry (c, x) j).2 = f j)
    (hc : (rotateTimes left carry (c, x) k).1 = out) :
    RotateResult left carry c x k (f k)
      ((resultFlags out (signChange x.msb (signPath f k) free) (f k)).apply old) := by
  refine ⟨?_, resultFlags_zeroSign _ _ _ _, signFlag_of_signChange (free := free) ?_⟩
  · rw [resultFlags_c]
    exact Prod.ext hc.symm (hf k).symm
  · rw [resultFlags_pv]
    simp only [hf]
    rfl

theorem rotateLeft_carryOut (hn : 0 < n) (c : Bool) (x : BitVec n) (k : Nat) :
    (rotateTimes true false (c, x) (k + 1)).1 = (x.rotateLeft (k + 1)).getLsbD 0 := by
  rw [rotateTimes, rotateOnce_left, rotateTimes_left, rotateLeft_succ x k, getLsbD_rotateLeft_one _ hn, if_pos rfl]

theorem rotateRight_carryOut (hn : 0 < n) (c : Bool) (x : BitVec n) (k : Nat) :
    (rotateTimes false false (c, x) (k + 1)).1 = (x.rotateRight (k + 1)).msb := by
  rw [rotateTimes, rotateOnce_right, rotateTimes_right, rotateRight_succ x k, BitVec.msb_eq_getLsbD_last,
    getLsbD_rotateRight_one _ (by omega), if_pos rfl]

/-- The rotate of the model by its direction and by whether the carry takes part. -/
def rotateBy (left carry c : Bool) (x : BitVec n) (k : Nat) (free : Draw) : BitVec n × FlagUpdate :=
  match left, carry with
  | true, false => rotateLeft x k free
  | true, true => rotateLeftCarry x c k free
  | false, false => rotateRight x k free
  | false, true => rotateRightCarry x c k free

theorem rotateBy_result (hn : 0 < n) (left carry c : Bool) (x : BitVec n) (k : Nat) (free : Draw) (old : Word) :
    RotateResult left carry c x (k + 1) (rotateBy left carry c x (k + 1) free).1
      ((rotateBy left carry c x (k + 1) free).2.apply old) := by
  cases left <;> cases carry
  case true.false => exact rotateResult_of_steps (rotateTimes_left c x) (rotateLeft_carryOut hn c x k)
  case false.false => exact rotateResult_of_steps (rotateTimes_right c x) (rotateRight_carryOut hn c x k)
  case true.true =>
    refine rotateResult_of_steps (f := fun j => ((withCarry (c, x)).rotateLeft j).setWidth n) (fun j => ?_) ?_
    · rw [← withCarry_rotateTimes_left hn, withCarry_setWidth]
    · exact (withCarry_msb _).symm.trans (congrArg _ (withCarry_rotateTimes_left hn (c, x) (k + 1)))
  case false.true =>
    refine rotateResult_of_steps (f := fun j => ((withCarry (c, x)).rotateRight j).setWidth n) (fun j => ?_) ?_
    · rw [← withCarry_rotateTimes_right hn, withCarry_setWidth]
    · exact (withCarry_msb _).symm.trans (congrArg _ (withCarry_rotateTimes_right hn (c, x) (k + 1)))

theorem rotateBy_mask (left carry c : Bool) (x : BitVec n) (k : Nat) (free : Draw) :
    (rotateBy left carry c x k free).2.mask &&& ~~~flagsCZSP = 0 := by
  cases left <;> cases carry <;> exact mask_czsp _ _ _ _

/-- R341 to R348: a register rotated once or twice. -/
theorem Width.Framed.rotates (hw : w.Framed F) (hs : w.Steady) (hd : w.Drawable F) (hn : 0 < n) {two : Bool}
    (hx : o = .next (modifyRegDraw w d (fun free x => rotateBy left carry (flagC s.fcw) x (rotateCount two) free)
      (s.fetchExt 0))) :
    ∃ t, o = .next t ∧
      RotateResult left carry (flagC s.fcw) (w.getReg s d) (rotateCount two) ((Place.reg d).get w t.bare) t.fcw ∧
      F s t (.reg d) flagsCZSP s.restDrawn := by
  refine hw.modifiesDraw hs hd hx (fun free => rotateBy_mask _ _ _ _ _ free) fun free => ?_
  cases two
  · exact rotateBy_result hn left carry _ _ 0 free s.fcw
  · exact rotateBy_result hn left carry _ _ 1 free s.fcw

/-- Settles O24: each of the eight is `rotateBy` of one register, which takes single-bit steps. -/
theorem rotatesAreSingleBitSteps : Obligations.RotatesAreSingleBitSteps := by
  intro s d two k word byte
  have words : ∀ {i left carry}, exec i s = .next (modifyRegDraw wordW d
      (fun free x => rotateBy left carry (flagC s.fcw) x (rotateCount two) free) (s.fetchExt 0)) → word i left carry :=
    wordW_framed.rotates wordW_steady wordW_drawable (by decide)
  have bytes : ∀ {i left carry}, exec i s = .next (modifyRegDraw byteW d
      (fun free x => rotateBy left carry (flagC s.fcw) x (rotateCount two) free) (s.fetchExt 0)) → byte i left carry :=
    byteW_framed.rotates byteW_steady byteW_drawable (by decide)
  exact ⟨words rfl, words rfl, words rfl, words rfl, bytes rfl, bytes rfl, bytes rfl, bytes rfl⟩

end
end Sys2Proof.Machine

namespace Sys2Proof.Machine

open Sys2Proof

section

variable {s : State} {n k : Nat} {arith : Bool} {x : BitVec n} {w : Width n}
  {F : State → State → Place → Word → Rest → Prop} {o : Out} {d r : Reg} {c : Word} {m : Int}

/-! ### Shifts by a signed count (R363 to R365) -/

theorem shift_zero (arith : Bool) (x : BitVec n) (free : Draw) :
    shift arith x 0 free = (x, resultFlags free.c (if arith then false else free.pv) x) := if_pos rfl

theorem shift_left (arith : Bool) (x : BitVec n) (free : Draw) (h : 0 < m) (hn : m ≤ n) :
    shift arith x m free = (x <<< m.toNat, resultFlags (x.getLsbD (n - m.toNat))
      (if arith then signChange x.msb (signPath (x <<< ·) m.toNat) free.pv else free.pv) (x <<< m.toNat)) := by
  have count : m.natAbs = m.toNat := by omega
  rw [shift, if_neg (by omega), if_neg (by omega), if_pos h, count]
  rfl

/-- R363: a right shift brings in copies of the sign, or zeros. -/
def shiftedRight (arith : Bool) (x : BitVec n) (k : Nat) : BitVec n := if arith then x.sshiftRight k else x >>> k

theorem shiftedRight_toInt (x : BitVec n) (k : Nat) : (shiftedRight true x k).toInt = x.toInt / 2 ^ k := by
  rw [shiftedRight, if_pos rfl, BitVec.toInt_sshiftRight, Int.shiftRight_eq_div_pow]
  norm_cast

theorem shiftedRight_toNat (x : BitVec n) (k : Nat) : (shiftedRight false x k).toNat = x.toNat / 2 ^ k := by
  rw [shiftedRight, if_neg Bool.false_ne_true, BitVec.toNat_ushiftRight, Nat.shiftRight_eq_div_pow]

theorem shift_right (arith : Bool) (x : BitVec n) (free : Draw) (h : m < 0) (hn : -m ≤ n) :
    shift arith x m free = (shiftedRight arith x (-m).toNat, resultFlags (x.getLsbD ((-m).toNat - 1))
      (if arith then false else free.pv) (shiftedRight arith x (-m).toNat)) := by
  have count : m.natAbs = (-m).toNat := by omega
  rw [shift, if_neg (by omega), if_neg (by omega), if_neg (by omega), count]
  rfl

theorem shift_mask (arith : Bool) (x : BitVec n) (m : Int) (free : Draw) :
    (shift arith x m free).2.mask &&& ~~~flagsCZSP = 0 := by
  unfold shift
  split_ifs <;> exact mask_czsp _ _ _ _

/-! #### What the statement asks, by the sign of the count -/

theorem shiftResult_zero {f : Word} (flags : ZeroSign x f) (pv : arith = true → flagPV f = false) :
    ShiftResult arith x 0 x f :=
  ⟨fun _ => ⟨rfl, flags, pv⟩, fun h => absurd h.1 (by decide), fun h => absurd h.1 (by decide)⟩

theorem shiftResult_left {y : BitVec n} {f : Word} (h : 0 < m) (value : y.toNat = x.toNat * 2 ^ m.toNat % 2 ^ n)
    (flags : ZeroSign y f) (carry : flagC f = x.getLsbD (n - m.toNat))
    (pv : arith = true → SignFlag x.msb ((List.range m.toNat).map fun j => (x <<< (j + 1)).msb) f) :
    ShiftResult arith x m y f :=
  ⟨fun h0 => by omega, fun _ => ⟨value, flags, carry, pv⟩, fun hr => by omega⟩

theorem shiftResult_right {y : BitVec n} {f : Word} (h : m < 0) (flags : ZeroSign y f)
    (carry : flagC f = x.getLsbD ((-m).toNat - 1))
    (signed : arith = true → y.toInt = x.toInt / 2 ^ (-m).toNat ∧ flagPV f = false)
    (unsigned : arith = false → y.toNat = x.toNat / 2 ^ (-m).toNat) : ShiftResult arith x m y f :=
  ⟨fun h0 => by omega, fun hl => by omega, fun _ => ⟨flags, carry, signed, unsigned⟩⟩

/-- R365: a count beyond the width leaves the result and the flags open. -/
theorem shiftResult_beyond {y : BitVec n} {f : Word} (h : n < m.natAbs) : ShiftResult arith x m y f :=
  ⟨fun h0 => by omega, fun hl => by omega, fun hr => by omega⟩

theorem shift_result (arith : Bool) (x : BitVec n) (m : Int) (free : Draw) (old : Word) :
    ShiftResult arith x m (shift arith x m free).1 ((shift arith x m free).2.apply old) := by
  by_cases beyond : n < m.natAbs
  · exact shiftResult_beyond beyond
  obtain right | rfl | left := Int.lt_trichotomy m 0
  · rw [shift_right arith x free right (by omega)]
    refine shiftResult_right right (resultFlags_zeroSign _ _ _ _) (resultFlags_c _ _ _ _) (fun ha => ?_) fun ha => ?_
    · subst ha
      exact ⟨shiftedRight_toInt x _, resultFlags_pv _ _ _ _⟩
    · subst ha
      exact shiftedRight_toNat x _
  · rw [shift_zero]
    refine shiftResult_zero (resultFlags_zeroSign _ _ _ _) fun ha => ?_
    rw [resultFlags_pv, ha, if_pos rfl]
  · rw [shift_left arith x free left (by omega)]
    refine shiftResult_left left ?_ (resultFlags_zeroSign _ _ _ _) (resultFlags_c _ _ _ _) fun ha => ?_
    · rw [BitVec.toNat_shiftLeft, Nat.shiftLeft_eq]
    · subst ha
      exact signFlag_of_signChange (resultFlags_pv _ _ _ _)

/-- R349 to R360: a register shifted. -/
theorem Width.Framed.shifts (hw : w.Framed F) (hs : w.Steady) (hd : w.Drawable F)
    (hx : o = .next (shiftReg w arith d c (s.fetchExt 1))) :
    ∃ t, o = .next t ∧
      ShiftResult arith (w.getReg s d) (lowByte c).toInt ((Place.reg d).get w t.bare) t.fcw ∧
      F s t (.reg d) flagsCZSP s.restDrawn :=
  hw.modifiesDraw hs hd hx (fun free => shift_mask _ _ _ free) fun free => shift_result _ _ _ free s.fcw

/-- The count of a dynamic shift is read after the instruction's word is fetched, which changes no register. -/
theorem finish_shiftReg (s : State) (w : Width n) (arith : Bool) (d r : Reg) :
    finish s 1 (fun t => shiftReg w arith d (t.reg r) t) = .next (shiftReg w arith d (s.reg r) (s.fetchExt 1)) := by
  rw [← State.fetchExt_reg s 1 r]
  rfl

/-- Settles O25: each of the twelve is `shiftReg` of one register, by a count in the instruction or in a register. -/
theorem shiftsMoveBySignedCount : Obligations.ShiftsMoveBySignedCount := by
  intro s d r m word byte long
  have words : ∀ {i arith c}, exec i s = .next (shiftReg wordW arith d c (s.fetchExt 1)) → word i arith c :=
    wordW_framed.shifts wordW_steady wordW_drawable
  have bytes : ∀ {i arith c}, exec i s = .next (shiftReg byteW arith d c (s.fetchExt 1)) → byte i arith c :=
    byteW_framed.shifts byteW_steady byteW_drawable
  have longs : ∀ {i arith c}, (evenReg d = true → exec i s = .next (shiftReg longW arith d c (s.fetchExt 1))) →
      long i arith c :=
    fun hx h => longW_framed.shifts longW_steady longW_drawable (hx h)
  exact ⟨words rfl, words rfl, words (finish_shiftReg s _ _ d r), words (finish_shiftReg s _ _ d r),
    bytes rfl, bytes rfl, bytes (finish_shiftReg s _ _ d r), bytes (finish_shiftReg s _ _ d r),
    longs (need_of .oddPair _), longs (need_of .oddPair _),
    longs fun h => (need_of .oddPair _ h).trans (finish_shiftReg s _ _ d r),
    longs fun h => (need_of .oddPair _ h).trans (finish_shiftReg s _ _ d r)⟩

end
end Sys2Proof.Machine

namespace Sys2Proof.Machine

open Sys2Proof

section

variable {l r : Reg}

/-! ### Digit rotates (R361, R362) -/

/-! #### The two digits of a byte -/

theorem digits_toNat (x y : BitVec 4) : (x ++ y : Byte).toNat = x.toNat * 16 + y.toNat := toNat_append x y rfl

theorem highDigit_toNat (b : Byte) : (b.extractLsb' 4 4).toNat = b.toNat / 16 := by
  rw [BitVec.extractLsb'_toNat, Nat.shiftRight_eq_div_pow]
  exact Nat.mod_eq_of_lt (by omega)

theorem lowDigit_toNat (b : Byte) : (b.extractLsb' 0 4).toNat = b.toNat % 16 := by
  rw [BitVec.extractLsb'_toNat, Nat.shiftRight_zero]

theorem digitsLeft_link (a b : Byte) : (digitsLeft a b).1.toNat = a.toNat / 16 * 16 + b.toNat / 16 := by
  rw [digitsLeft, digits_toNat, highDigit_toNat, highDigit_toNat]

theorem digitsLeft_source (a b : Byte) : (digitsLeft a b).2.toNat = b.toNat % 16 * 16 + a.toNat % 16 := by
  rw [digitsLeft, digits_toNat, lowDigit_toNat, lowDigit_toNat]

theorem digitsRight_link (a b : Byte) : (digitsRight a b).1.toNat = a.toNat / 16 * 16 + b.toNat % 16 := by
  rw [digitsRight, digits_toNat, highDigit_toNat, lowDigit_toNat]

theorem digitsRight_source (a b : Byte) : (digitsRight a b).2.toNat = a.toNat % 16 * 16 + b.toNat / 16 := by
  rw [digitsRight, digits_toNat, lowDigit_toNat, highDigit_toNat]

/-! #### What a digit rotate leaves -/

/-- The link byte is written last, so it stays also where it is the source. -/
theorem digitRotate_link (l r : Reg) (f : Byte → Byte → Byte × Byte) (s : State) :
    (digitRotate l r f s).byteReg l = (f (s.byteReg l) (s.byteReg r)).1 :=
  State.byteReg_setByteReg _ _ _

theorem digitRotate_source (h : r ≠ l) (f : Byte → Byte → Byte × Byte) (s : State) :
    (digitRotate l r f s).byteReg r = (f (s.byteReg l) (s.byteReg r)).2 :=
  (State.byteReg_setByteReg_other _ h _).trans (State.byteReg_setByteReg _ _ _)

theorem digitRotate_other {k : Reg} (hl : k ≠ l) (hr : k ≠ r) (f : Byte → Byte → Byte × Byte) (s : State) :
    (digitRotate l r f s).byteReg k = s.byteReg k :=
  (State.byteReg_setByteReg_other _ hl _).trans (State.byteReg_setByteReg_other _ hr _)

theorem mask_zs (z s : Bool) : ({ z := some z, s := some s } : FlagUpdate).mask &&& ~~~flagsZS = 0 := by
  revert z s
  decide

theorem digitRotate_frame (l r : Reg) (f : Byte → Byte → Byte × Byte) (s : State) :
    Frame s (digitRotate l r f s) [s.byteHome l, s.byteHome r] [] flagsZS s.restDrawn :=
  have start : Frame s s [s.byteHome l, s.byteHome r] [] flagsZS s.rest := (Undisturbed.refl s).frame
  have source := start.setByteReg r (f (s.byteReg l) (s.byteReg r)).2 (by simp)
  have link := source.setByteReg l (f (s.byteReg l) (s.byteReg r)).1 (by rw [source.byteHome]; simp)
  (link.setFlags _ (mask_zs _ _)).drawn

/-- Settles O26: both are `digitRotate`, by which digits each takes. -/
theorem digitRotatesMoveThreeDigits : Obligations.DigitRotatesMoveThreeDigits := by
  intro s l r lo hi keeps
  have kept : ∀ f, keeps (digitRotate l r f s) := fun f =>
    ⟨fun k hl hr => digitRotate_other hl hr f s, digitRotate_frame l r f s⟩
  refine ⟨⟨digitRotate l r digitsLeft s, rfl, ?_, fun h => ?_, kept digitsLeft⟩,
    ⟨digitRotate l r digitsRight s, rfl, ?_, fun h => ?_, kept digitsRight⟩⟩
  · rw [digitRotate_link]
    exact digitsLeft_link _ _
  · rw [digitRotate_source h]
    exact digitsLeft_source _ _
  · rw [digitRotate_link]
    exact digitsRight_link _ _
  · rw [digitRotate_source h]
    exact digitsRight_source _ _

end
end Sys2Proof.Machine

namespace Sys2Proof.Machine

open Sys2Proof

section

variable {s t u : State} {c : CondCode} {dst : MemOp} {d : Reg} {regs : List Reg} {stored : List Nat} {flags : Word}

/-! ### Jumps and counted branches (44_control.md R371, R372, R376, R377) -/

/-! #### Displacements -/

theorem shiftLeft_one_eq_two_mul (x : Word) : x <<< 1 = 2 * x := by
  rw [BitVec.shiftLeft_eq_mul_twoPow, BitVec.mul_comm]
  rfl

/-- R372: a signed displacement counts words. -/
theorem signedDisp_eq {n : Nat} (p : BitVec n) : signedDisp p = BitVec.ofInt 16 (2 * p.toInt) := by
  rw [signedDisp, shiftLeft_one_eq_two_mul, BitVec.ofInt_mul]
  rfl

theorem neg_signedDisp_eq {n : Nat} (p : BitVec n) : -(signedDisp p) = BitVec.ofInt 16 (-2 * p.toInt) := by
  rw [signedDisp_eq, ← BitVec.ofInt_neg, Int.neg_mul]

theorem backwardDisp_eq (p : BitVec 7) : backwardDisp p = -(BitVec.ofNat 16 (2 * p.toNat)) := by
  have extended : p.setWidth 16 = BitVec.ofNat 16 p.toNat := (BitVec.ofNat_toNat 16 p).symm
  rw [backwardDisp, shiftLeft_one_eq_two_mul, BitVec.ofNat_mul, extended]
  rfl

/-! #### What a jump changes -/

/-- A jump made only if `b` holds writes `pc` only. -/
theorem Frame.setPc_if (h : Frame s u regs stored flags s.rest) (b : Prop) [Decidable b] (a : Addr) :
    (if b then u.setPc a else u).pc = (if b then pcValue s.cfg.variant a else u.pc) ∧
      (∀ n, (if b then u.setPc a else u).reg n = u.reg n) ∧
      Frame s (if b then u.setPc a else u) regs stored flags s.rest := by
  split
  · exact ⟨by rw [State.setPc_pc, h.cfg], u.setPc_reg a, h.setPc a⟩
  · exact ⟨rfl, fun _ => rfl, h⟩

theorem exec_jp (h : dst.pairs s.segmented = true) : exec (.jp c dst) s =
    .next (if cc c s.fcw then (s.fetchExt dst.extWords).setPc (dst.ea s) else s.fetchExt dst.extWords) :=
  need_finish h (by rw [MemOp.ea_fetchExt, State.fetchExt_fcw])

theorem exec_jr (disp : BitVec 8) : exec (.jr c disp) s =
    .next (if cc c s.fcw then s.setPc (s.addrAdd s.pc (BitVec.ofInt 16 (2 * disp.toInt))) else s) := by
  rw [← signedDisp_eq]
  rfl

theorem exec_djnz (disp : BitVec 7) : exec (.djnz d disp) s =
    .next (if s.reg d - 1 ≠ 0 then (s.setReg d (s.reg d - 1)).setPc (s.addrAdd s.pc (backwardDisp disp))
      else s.setReg d (s.reg d - 1)) := by
  rw [ite_not]
  rfl

theorem exec_dbjnz (disp : BitVec 7) : exec (.dbjnz d disp) s =
    .next (if s.byteReg d - 1 ≠ 0 then
        (s.setByteReg d (s.byteReg d - 1)).setPc (s.addrAdd s.pc (backwardDisp disp))
      else s.setByteReg d (s.byteReg d - 1)) := by
  rw [ite_not]
  rfl

theorem byteReg_congr (hc : t.cfg = u.cfg) (hr : ∀ n, t.reg n = u.reg n) (k : Reg) : t.byteReg k = u.byteReg k := by
  simp only [State.byteReg, State.byteRegAt, hc, hr]

theorem djnz_counts (s : State) (d : Reg) (disp : BitVec 7) :
    ∃ t, exec (.djnz d disp) s = .next t ∧ t.reg d = s.reg d - 1 ∧
      t.pc = (if t.reg d = 0 then s.pc else pcValue s.cfg.variant (s.addrAdd s.pc (backwardDisp disp))) ∧
      WordFrame s t (.reg d) 0 s.rest := by
  have counted : Frame s (s.setReg d (s.reg d - 1)) [d] [] 0 s.rest :=
    wordW_framed.put (.refl s) (.reg d) (s.reg d - 1)
  obtain ⟨hpc, hreg, frame⟩ := counted.setPc_if (s.reg d - 1 ≠ 0) (s.addrAdd s.pc (backwardDisp disp))
  have value := (hreg d).trans (s.reg_setReg_same d _)
  exact ⟨_, exec_djnz disp, value, by rw [value, hpc, ite_not]; rfl, frame⟩

theorem dbjnz_counts (s : State) (d : Reg) (disp : BitVec 7) :
    ∃ t, exec (.dbjnz d disp) s = .next t ∧ t.byteReg d = s.byteReg d - 1 ∧
      t.pc = (if t.byteReg d = 0 then s.pc else pcValue s.cfg.variant (s.addrAdd s.pc (backwardDisp disp))) ∧
      ByteFrame s t (.reg d) 0 s.rest := by
  obtain ⟨counted, others⟩ : ByteFrame s (s.setByteReg d (s.byteReg d - 1)) (.reg d) 0 s.rest :=
    byteW_framed.put (.refl s) (.reg d) (s.byteReg d - 1)
  obtain ⟨hpc, hreg, frame⟩ := counted.setPc_if (s.byteReg d - 1 ≠ 0) (s.addrAdd s.pc (backwardDisp disp))
  have bytes := byteReg_congr (frame.cfg.trans counted.cfg.symm) hreg
  have value := (bytes d).trans (s.byteReg_setByteReg d _)
  exact ⟨_, exec_dbjnz disp, value, by rw [value, hpc, ite_not]; rfl, frame,
    fun j hj => (bytes j).trans (others j hj)⟩

/-- Settles O27: each of the four is a jump made under a condition, `Frame.setPc_if`. -/
theorem jumpsFollowConditionOrCounter : Obligations.JumpsFollowConditionOrCounter := by
  refine ⟨fun s c => ⟨fun dst h => ?_, fun disp => ?_⟩, fun s d disp => ?_⟩
  · obtain ⟨hpc, -, frame⟩ := (Undisturbed.fetchExt s dst.extWords).setPc_if (cc c s.fcw = true) (dst.ea s)
    rw [State.fetchExt_pc] at hpc
    exact ⟨_, exec_jp h, hpc, frame⟩
  · obtain ⟨hpc, -, frame⟩ := (Undisturbed.refl s).setPc_if (cc c s.fcw = true)
      (s.addrAdd s.pc (BitVec.ofInt 16 (2 * disp.toInt)))
    exact ⟨_, exec_jr disp, hpc, frame⟩
  · have counts := And.intro (djnz_counts s d disp) (dbjnz_counts s d disp)
    rw [backwardDisp_eq] at counts
    exact counts

end
end Sys2Proof.Machine

namespace Sys2Proof.Machine

open Sys2Proof

section

variable {s t u : State} {back target : Addr} {c : CondCode} {dst : MemOp}

/-! ### CALL, CALR and RET (44_control.md R370, R373 to R375)

The implicit stack pointer is R15, alone or with the segment in R14, so that a call and a return move R15 by the size
`State.pcSize` of an address and write no other register. -/

theorem State.pcSize_of_segmented (h : s.segmented = true) : s.pcSize = 4 := if_pos h

theorem State.pcSize_of_nonsegmented (h : s.segmented = false) : s.pcSize = 2 := by
  rw [State.pcSize, h]
  rfl

theorem State.spReg_of_segmented (h : s.segmented = true) : s.spReg = 14 := if_pos h

theorem State.spReg_of_nonsegmented (h : s.segmented = false) : s.spReg = 15 := by
  rw [State.spReg, h]
  rfl

theorem State.offsetReg_spReg (s : State) : s.offsetReg s.spReg = 15 := by
  unfold State.offsetReg State.spReg
  cases s.segmented <;> rfl

/-! #### Calls -/

/-- Where the address is that a call pushes. -/
def State.callTop (s : State) : Addr := (s.stepPointer s.spReg (-s.pcSize)).pointer s.spReg

theorem State.pcCells_of_segmented (h : s.segmented = true) : s.pcCells = s.longCells s.callTop := by
  rw [State.pcCells, State.callTop, State.pcSize_of_segmented h, if_pos h]

theorem State.pcCells_of_nonsegmented (h : s.segmented = false) : s.pcCells = s.wordCells s.callTop := by
  rw [State.pcCells, State.callTop, State.pcSize_of_nonsegmented h, h]
  rfl

/-- From `s` to `t` the address `back` is pushed, in the form of the mode (R370), and `pc` goes to `target`. -/
structure Calls (s t : State) (back target : Addr) : Prop where
  pc    : t.pc = pcValue s.cfg.variant target
  sp    : t.reg 15 = s.reg 15 - s.pcSize
  long  : s.segmented = true → t.bare.readLong .stack s.callTop = segWord back ++ offset back
  word  : s.segmented = false → t.bare.readWord .stack s.callTop = offset back
  frame : Frame s t [15] s.pcCells 0 s.rest

theorem State.pushPc_segmented (h : s.segmented = true) (k : Nat) (a : Addr) :
    Pushes s ((s.fetchExt k).pushPc a) s.spReg s.pcSize (State.readLong .stack) s.longCells
      (segWord a ++ offset a) := by
  rw [State.pushPc, State.fetchExt_segmented, if_pos h, State.fetchExt_spReg, State.pcSize_of_segmented h]
  exact (Undisturbed.fetchExt s k).pushLong (s.fetchExt_pointer k _) _

theorem State.pushPc_nonsegmented (h : s.segmented = false) (k : Nat) (a : Addr) :
    Pushes s ((s.fetchExt k).pushPc a) s.spReg s.pcSize (State.readWord .stack) s.wordCells (offset a) := by
  rw [State.pushPc, State.fetchExt_segmented, if_neg (by rw [h]; exact Bool.false_ne_true), State.fetchExt_spReg,
    State.pcSize_of_nonsegmented h]
  exact (Undisturbed.fetchExt s k).pushWord (s.fetchExt_pointer k _) _

/-- What the push of a return address leaves, in terms of R15. -/
theorem Pushes.onStack {n : Nat} {read : State → Addr → BitVec n} {cells : Addr → List Nat} {v : BitVec n}
    (h : Pushes s u s.spReg s.pcSize read cells v) (hc : s.pcCells = cells s.callTop) :
    u.reg 15 = s.reg 15 - s.pcSize ∧ read u.bare s.callTop = v ∧ Frame s u [15] s.pcCells 0 s.rest := by
  obtain ⟨-, sp, value, frame⟩ := h
  rw [State.offsetReg_spReg] at sp frame
  exact ⟨sp, value, hc ▸ frame⟩

theorem State.pushPc_calls (s : State) (k : Nat) (back target : Addr) :
    Calls s (((s.fetchExt k).pushPc back).setPc target) back target := by
  cases h : s.segmented with
  | true =>
    obtain ⟨sp, value, frame⟩ := (State.pushPc_segmented h k back).onStack (State.pcCells_of_segmented h)
    exact ⟨by rw [State.setPc_pc, frame.cfg], sp, fun _ => value, fun h' => absurd (h.symm.trans h') (by decide),
      frame.setPc target⟩
  | false =>
    obtain ⟨sp, value, frame⟩ := (State.pushPc_nonsegmented h k back).onStack (State.pcCells_of_nonsegmented h)
    exact ⟨by rw [State.setPc_pc, frame.cfg], sp, fun h' => absurd (h.symm.trans h') (by decide), fun _ => value,
      frame.setPc target⟩

theorem exec_call (h : dst.pairs s.segmented = true) : exec (.call dst) s =
    .next (((s.fetchExt dst.extWords).pushPc (s.pcAfter dst.extWords)).setPc (dst.ea s)) :=
  need_finish h (by rw [State.callTo, State.fetchExt_pc, MemOp.ea_fetchExt])

theorem exec_calr (disp : BitVec 12) : exec (.calr disp) s =
    .next ((s.pushPc s.pc).setPc (s.addrAdd s.pc (BitVec.ofInt 16 (-2 * disp.toInt)))) := by
  rw [← neg_signedDisp_eq]
  rfl

theorem call_calls (h : dst.pairs s.segmented = true) :
    ∃ t, exec (.call dst) s = .next t ∧ Calls s t (s.pcAfter dst.extWords) (dst.ea s) :=
  ⟨_, exec_call h, s.pushPc_calls _ _ _⟩

theorem calr_calls (s : State) (disp : BitVec 12) : ∃ t, exec (.calr disp) s = .next t ∧
    Calls s t s.pc (s.addrAdd s.pc (BitVec.ofInt 16 (-2 * disp.toInt))) :=
  ⟨_, exec_calr disp, s.pushPc_calls 0 _ _⟩

/-! #### Returns -/

theorem State.popPc_address_segmented (h : s.segmented = true) : s.popPc.1 =
    segAddr ((s.topLong s.spReg).extractLsb' 16 16) ((s.topLong s.spReg).extractLsb' 0 16) := by
  rw [State.popPc, if_pos h]

theorem State.popPc_address_nonsegmented (h : s.segmented = false) :
    s.popPc.1 = s.nonsegAddr (s.topWord s.spReg) := by
  rw [State.popPc, h]
  rfl

/-- A long at the top of the stack is two words (R98). -/
theorem State.popPc_address_words (h : s.segmented = true) : s.popPc.1 =
    segAddr (s.readWord .stack (s.pointer 14)) (s.readWord .stack (s.addrAdd (wordAlign (s.pointer 14)) 2)) := by
  rw [State.popPc_address_segmented h, State.spReg_of_segmented h, State.topLong, State.readLong, append_high_16,
    append_low_16, State.readWord_wordAlign]

theorem State.popPc_state (s : State) :
    s.popPc.2 = (s.access (.read .stack) s.returnCells).stepPointer s.spReg s.pcSize := by
  unfold State.popPc State.returnCells State.spReg State.pcSize
  cases s.segmented <;> rfl

/-- From `s` to `t` an address is popped into `pc`. -/
structure Returns (s t : State) : Prop where
  pc    : t.pc = pcValue s.cfg.variant s.popPc.1
  sp    : t.reg 15 = s.reg 15 + s.pcSize
  frame : Frame s t [15] [] 0 s.rest

theorem exec_ret_of (h : cc c s.fcw = true) : exec (.ret c) s = .next (s.popPc.2.setPc s.popPc.1) :=
  congrArg Host.Outcome.next (if_pos h)

theorem exec_ret_of_not (h : cc c s.fcw = false) : exec (.ret c) s = .next s :=
  congrArg Host.Outcome.next (if_neg (by rw [State.fetchExt_fcw, h]; exact Bool.false_ne_true))

theorem State.popPc_sp (s : State) : s.popPc.2.reg 15 = s.reg 15 + s.pcSize := by
  rw [State.popPc_state, ← s.offsetReg_spReg]
  exact (s.access _ _).stepPointer_reg_offsetReg s.spReg s.pcSize

theorem State.popPc_frame (s : State) : Frame s s.popPc.2 [15] [] 0 s.rest := by
  rw [State.popPc_state, ← s.offsetReg_spReg]
  exact ((Undisturbed.refl s).frame.access _ _).stepPointer s.spReg s.pcSize (List.mem_singleton_self _)

theorem ret_returns (h : cc c s.fcw = true) : ∃ t, exec (.ret c) s = .next t ∧ Returns s t :=
  ⟨_, exec_ret_of h, by rw [State.setPc_pc, s.popPc_frame.cfg], s.popPc_sp, s.popPc_frame.setPc _⟩

/-- Settles O28: both calls are `State.pushPc_calls`, at the words of each; a return is `ret_returns` or nothing. -/
theorem callsPushAndReturnsPop : Obligations.CallsPushAndReturnsPop := by
  refine ⟨fun s => ?_, fun s c => ?_⟩
  · intro calls
    have pushes : ∀ {i : Instr} {back target : Addr},
        (∃ t, exec i s = .next t ∧ Calls s t back target) → calls i back target := by
      rintro i back target ⟨t, ht, call⟩
      refine ⟨t, ht, call.pc, call.sp, fun h => ⟨call.long h, ?_⟩, fun h => ⟨call.word h, ?_⟩⟩
      · exact State.pcCells_of_segmented h ▸ call.frame
      · exact State.pcCells_of_nonsegmented h ▸ call.frame
    exact ⟨fun dst h => pushes (call_calls h), fun disp => pushes (calr_calls s disp)⟩
  · cases hc : cc c s.fcw with
    | false => exact ⟨s, exec_ret_of_not hc, fun _ => ⟨rfl, Undisturbed.refl s⟩, fun h => absurd h (by decide),
        fun h => absurd h (by decide)⟩
    | true =>
      obtain ⟨t, ht, hpc, sp, frame⟩ := ret_returns hc
      refine ⟨t, ht, fun h => absurd h (by decide), fun _ h => ⟨?_, ?_, frame⟩, fun _ h => ⟨?_, ?_, frame⟩⟩
      · rw [hpc, State.popPc_address_words h]
      · rw [sp, State.pcSize_of_segmented h]
      · rw [hpc, State.popPc_address_nonsegmented h, State.topWord, State.spReg_of_nonsegmented h]
      · rw [sp, State.pcSize_of_nonsegmented h]

/-! #### A return after a call -/

theorem segAddr_segWord (a : Addr) : segAddr (segWord a) (offset a) = a := by
  have seg : (segWord a).extractLsb' 8 7 = a.extractLsb' 16 7 := by
    apply BitVec.eq_of_toNat_eq
    rw [BitVec.extractLsb'_toNat, segWord, long_toNat, Nat.shiftRight_eq_div_pow]
    omega
  rw [segAddr, seg, offset, halves_addr]

theorem wordAlign_seg (a : Addr) : (wordAlign a).extractLsb' 16 7 = a.extractLsb' 16 7 := by
  apply BitVec.eq_of_toNat_eq
  rw [BitVec.extractLsb'_toNat, BitVec.extractLsb'_toNat, wordAlign_toNat, Nat.shiftRight_eq_div_pow,
    Nat.shiftRight_eq_div_pow]
  omega

/-- On the Z8002 the segment of an address plays no part in `pc` (R39). -/
theorem pcValue_z8002_append (x : BitVec 7) (a : Addr) : pcValue .z8002 (x ++ offset a) = pcValue .z8002 a := by
  have same : (wordAlign (x ++ offset a)).extractLsb' 0 16 = (wordAlign a).extractLsb' 0 16 := by
    apply BitVec.eq_of_toNat_eq
    simp only [BitVec.extractLsb'_toNat, wordAlign_toNat, append_7_16_toNat, offset, Nat.shiftRight_zero]
    omega
  rw [pcValue, same]
  rfl

/-- A jump within the segment of `pc` keeps it the segment of non-segmented mode (R97, R144). -/
theorem nonsegSegment_of_pc {off : Word} (hc : t.cfg = s.cfg)
    (hp : t.pc = pcValue s.cfg.variant (s.nonsegSegment ++ off)) : t.nonsegSegment = s.nonsegSegment := by
  cases hv : s.cfg.variant with
  | z8002 => rw [State.nonsegSegment_of_z8002 hv, State.nonsegSegment_of_z8002 (by rw [hc, hv])]
  | z8001 =>
    rw [hv] at hp
    rw [State.nonsegSegment_of_z8001 (by rw [hc, hv]), hp, pcValue, wordAlign_seg, append_seg]

/-- The offset of the next instruction, in the segment of `pc`, is its address. -/
theorem pcValue_nonsegSegment_pcAfter (s : State) (k : Nat) :
    pcValue s.cfg.variant (s.nonsegSegment ++ offset (s.pcAfter k)) = pcValue s.cfg.variant (s.pcAfter k) := by
  cases hv : s.cfg.variant with
  | z8002 => exact pcValue_z8002_append _ _
  | z8001 =>
    have seg : (s.pcAfter k).extractLsb' 16 7 = s.nonsegSegment := by
      unfold State.pcAfter
      split
      · exact (State.nonsegSegment_of_z8001 hv).symm
      · rw [State.addrAdd_pc, append_seg]
    rw [← seg, offset, halves_addr]

/-- Outside segmented mode an operand in the form of the mode is in the segment of `pc`. -/
theorem AddrOp.ea_of_nonsegmented {ad : AddrOp} (hw : ad.wf false = true) :
    ∃ off : Word, ad.ea s = s.nonsegSegment ++ off := by
  cases ad with
  | nonseg off => exact ⟨off, s.nonsegAddr_eq off⟩
  | short _ _ | long _ _ => exact absurd hw Bool.false_ne_true

theorem MemOp.ea_of_nonsegmented (h : s.segmented = false) (hw : dst.wf false = true) :
    ∃ off : Word, dst.ea s = s.nonsegSegment ++ off := by
  cases dst with
  | ir n => exact ⟨_, State.pointer_of_nonsegmented h n⟩
  | da ad => exact AddrOp.ea_of_nonsegmented hw
  | x n ad =>
    obtain ⟨off, hoff⟩ := AddrOp.ea_of_nonsegmented (s := s) (MemOp.wf_x hw).2
    exact ⟨_, by rw [MemOp.ea, hoff, s.addrAdd_append State.nonsegSegment_of_z8002]⟩

/-- The top of the stack is where the call stored the address. -/
theorem Calls.pointer (h : Calls s t back target) (same : s.segmented = false → t.nonsegSegment = s.nonsegSegment) :
    t.pointer t.spReg = s.callTop := by
  have sp : t.spReg = s.spReg := by rw [State.spReg, h.frame.segmented, ← State.spReg]
  have regs : ∀ n, t.reg n = (s.stepPointer s.spReg (-s.pcSize)).reg n := fun n => by
    rw [State.stepPointer, State.offsetReg_spReg, State.reg_setReg, ← sub_eq_add_neg, ← h.sp]
    split
    next hn => rw [hn]
    next hn => exact h.frame.regs n (by simpa using hn)
  rw [sp, State.callTop]
  cases hs : s.segmented with
  | true =>
    rw [State.pointer_of_segmented (h.frame.segmented.trans hs), State.pointer_of_segmented (by simpa using hs), regs,
      regs]
  | false =>
    rw [State.pointer_of_nonsegmented (h.frame.segmented.trans hs), State.pointer_of_nonsegmented (by simpa using hs),
      regs, same hs]
    rfl

/-- What is popped after a call is the address it pushed, where no read of the stack answers a placeholder. -/
theorem Calls.popPc (h : Calls s t back target) (same : s.segmented = false → t.nonsegSegment = s.nonsegSegment)
    (hg : ∀ g ∈ s.guards, g.access ≠ .read .stack) :
    t.popPc.1 = if s.segmented then back else s.nonsegSegment ++ offset back := by
  have bare : ∀ g ∈ t.guards, g.access ≠ .read .stack := by rwa [h.frame.rest.guards]
  cases hs : s.segmented with
  | true =>
    have value : t.topLong t.spReg = segWord back ++ offset back := by
      rw [State.topLong, h.pointer same, State.readLong_stack_bare bare, h.long hs]
    rw [State.popPc_address_segmented (h.frame.segmented.trans hs), value, append_high_16, append_low_16,
      segAddr_segWord, if_pos rfl]
  | false =>
    have value : t.topWord t.spReg = offset back := by
      rw [State.topWord, h.pointer same, State.readWord_stack_bare bare, h.word hs]
    rw [State.popPc_address_nonsegmented (h.frame.segmented.trans hs), value, State.nonsegAddr_eq, same hs]
    rfl

/-- Condition 8 always holds (R160). -/
theorem cc_always (f : Word) : cc 8 f = true := rfl

/-- Settles O29: the return pops what the call pushed; outside segmented mode that is an offset in the segment of `pc`,
which a target in the form of the mode does not leave. -/
theorem returnUndoesCall : Obligations.ReturnUndoesCall := by
  intro s dst wf pairs hg
  obtain ⟨t, ht, call⟩ := call_calls pairs
  obtain ⟨u, hu, ret⟩ := ret_returns (cc_always t.fcw)
  have same : s.segmented = false → t.nonsegSegment = s.nonsegSegment := fun hs => by
    obtain ⟨off, hoff⟩ := MemOp.ea_of_nonsegmented hs (hs ▸ wf)
    exact nonsegSegment_of_pc call.frame.cfg (hoff ▸ call.pc)
  refine ⟨t, u, ht, hu, ?_, fun n => ?_⟩
  · rw [ret.pc, call.popPc same hg, call.frame.cfg]
    split
    · rfl
    · exact pcValue_nonsegSegment_pcAfter s _
  · by_cases hn : n = 15
    · have size : t.pcSize = s.pcSize := by rw [State.pcSize, call.frame.segmented, ← State.pcSize]
      rw [hn, ret.sp, call.sp, size, sub_add_cancel]
    · have other : n ∉ [(15 : Reg)] := by simpa using hn
      rw [ret.frame.regs n other, call.frame.regs n other]

end
end Sys2Proof.Machine

namespace Sys2Proof.Machine

open Sys2Proof

section

/-! ### SC, the extended and the undefined opcodes (R378, R526, R527) -/

/-- A request of an instruction is pending once it is latched (R620). -/
theorem State.raise_isPending (s : State) {c : Cause} (h : c ∈ [.syscall, .trap, .epu]) :
    (s.raise c).isPending c = true := by
  simp only [List.mem_cons, List.not_mem_nil, or_false] at h
  rcases h with rfl | rfl | rfl <;> rfl

theorem State.raise_frame (s : State) {c : Cause} (h : c ∈ [.syscall, .trap, .epu]) :
    Frame s (s.raise c) [] [] 0 (s.restRaised c) :=
  (Undisturbed.refl s).raise c fun e => absurd (e ▸ h) (by decide)

/-- Settles O30: each of the eight is `State.raise` of its cause. -/
theorem trapInstructionsOnlyLatchARequest : Obligations.TrapInstructionsOnlyLatchARequest := by
  intro s k w latches
  have raises : ∀ {i : Instr} {c : Cause}, c ∈ [.syscall, .trap, .epu] → exec i s = .next (s.raise c) →
      latches i c := fun h hx => ⟨_, hx, rfl, s.raise_isPending h, s.raise_frame h⟩
  exact ⟨raises (by decide) rfl, raises (by decide) rfl, raises (by decide) rfl, raises (by decide) rfl,
    raises (by decide) rfl, raises (by decide) rfl, raises (by decide) rfl, raises (by decide) rfl⟩

end
end Sys2Proof.Machine

namespace Sys2Proof.Machine

open Sys2Proof

section

variable {s b t u : State} {ps : List Reg} {k : Word} {c : Reg} {regs : List Reg} {stored : List Nat} {flags : Word}
  {r : Rest} {l : List (Access × Nat)} {again : Bool}

/-! ### One iteration of a block instruction (45_block.md R400)

After its own effect every block instruction steps its pointers, counts down, and may branch back to itself. What that
makes of registers, `pc` and flags is said once; `b` is the state whose registers are stepped, which is `s` but for a
register that the instruction has written before. -/

/-- R400: the pointers `ps` stepped by `k` in order. -/
def State.stepPointers (s : State) (ps : List Reg) (k : Word) : State := ps.foldl (fun u p => u.stepPointer p k) s

theorem counted_iff : Counted s t ps k c ↔
    (∀ n, t.reg n = if n = c then (s.stepPointers ps k).reg c - 1 else (s.stepPointers ps k).reg n) ∧
      flagPV t.fcw = decide (t.reg c = 0) := Iff.rfl

/-! #### Steps and the count -/

/-- Stepping pointers writes registers only. -/
theorem State.stepPointers_eq (s : State) (ps : List Reg) (k : Word) :
    ∃ regs, s.stepPointers ps k = { s with regs := regs } := by
  induction ps generalizing s with
  | nil => exact ⟨s.regs, rfl⟩
  | cons p ps ih => exact ih (s.stepPointer p k)

@[simp] theorem State.stepPointers_cfg (s : State) (ps : List Reg) (k : Word) : (s.stepPointers ps k).cfg = s.cfg := by
  obtain ⟨regs, h⟩ := s.stepPointers_eq ps k
  rw [h]

@[simp] theorem State.stepPointers_mem (s : State) (ps : List Reg) (k : Word) : (s.stepPointers ps k).mem = s.mem := by
  obtain ⟨regs, h⟩ := s.stepPointers_eq ps k
  rw [h]

@[simp] theorem State.stepPointers_fcw (s : State) (ps : List Reg) (k : Word) : (s.stepPointers ps k).fcw = s.fcw := by
  obtain ⟨regs, h⟩ := s.stepPointers_eq ps k
  rw [h]

@[simp] theorem State.stepPointers_rest (s : State) (ps : List Reg) (k : Word) :
    (s.stepPointers ps k).rest = s.rest := by
  obtain ⟨regs, h⟩ := s.stepPointers_eq ps k
  rw [h]
  rfl

/-- What the registers hold after the steps depends on what they held and on the mode. -/
theorem State.stepPointers_reg_congr (hr : ∀ n, u.reg n = b.reg n) (hs : u.segmented = b.segmented) (ps : List Reg)
    (k : Word) (n : Reg) : (u.stepPointers ps k).reg n = (b.stepPointers ps k).reg n := by
  induction ps generalizing u b with
  | nil => exact hr n
  | cons p ps ih =>
    have offset : u.offsetReg p = b.offsetReg p := by rw [State.offsetReg, hs, ← State.offsetReg]
    refine ih (fun m => ?_) (by simpa using hs)
    simp only [State.stepPointer, State.reg_setReg, offset, hr]

theorem State.countDown_reg (s : State) (c n : Reg) :
    (s.countDown c).reg n = if n = c then s.reg c - 1 else s.reg n := by
  rw [State.countDown, State.setFlags_reg, State.reg_setReg]

theorem State.countDown_flagPV (s : State) (c : Reg) : flagPV (s.countDown c).fcw = decide (s.reg c - 1 = 0) :=
  flagPV_apply _ _

theorem State.countDown_flagZ (s : State) (c : Reg) : flagZ (s.countDown c).fcw = flagZ s.fcw := flagZ_apply _ _

theorem State.countDown_counted (hr : ∀ n, u.reg n = b.reg n) (hs : u.segmented = b.segmented) (ps : List Reg)
    (k : Word) (c : Reg) : Counted b ((u.stepPointers ps k).countDown c) ps k c := by
  rw [counted_iff]
  have steps := State.stepPointers_reg_congr hr hs ps k
  refine ⟨fun n => ?_, ?_⟩
  · rw [State.countDown_reg, steps, steps]
  · rw [State.countDown_flagPV, State.countDown_reg, if_pos rfl]

/-- Only registers and PV count. -/
theorem Counted.congr (h : Counted b t ps k c) (hr : ∀ n, u.reg n = t.reg n) (hf : flagPV u.fcw = flagPV t.fcw) :
    Counted b u ps k c := by
  obtain ⟨counted, pv⟩ := h
  exact ⟨fun n => (hr n).trans (counted n), by rw [hf, hr]; exact pv⟩

/-! #### Frames -/

theorem Frame.storeFrame (h : Frame s t regs stored flags r) : StoreFrame s t stored flags r := ⟨h.mem, h.fcw, h.rest⟩

/-- An update of registers, flags and `pc` keeps a frame of memory. -/
theorem StoreFrame.congr (h : StoreFrame s t stored flags r) (hm : u.mem = t.mem)
    (hf : u.fcw &&& ~~~flags = t.fcw &&& ~~~flags) (hr : u.rest = t.rest) : StoreFrame s u stored flags r := by
  obtain ⟨mem, fcw, rest⟩ := h
  exact ⟨fun a ha => hm ▸ mem a ha, hf.trans fcw, rest.keep hr⟩

theorem StoreFrame.setFlags (h : StoreFrame s t stored flags r) (f : FlagUpdate) (hf : f.mask &&& ~~~flags = 0) :
    StoreFrame s (t.setFlags f) stored flags r := h.congr rfl (f.apply_keeps _ hf) rfl

theorem StoreFrame.stepPointers (h : StoreFrame s t stored flags r) (ps : List Reg) (k : Word) :
    StoreFrame s (t.stepPointers ps k) stored flags r :=
  h.congr (t.stepPointers_mem ps k) (by rw [State.stepPointers_fcw]) (t.stepPointers_rest ps k)

theorem StoreFrame.drawn (h : StoreFrame s t stored flags r) :
    StoreFrame s t.drawn stored flags { r with draws := r.draws + 1 } := by
  obtain ⟨mem, fcw, rest⟩ := h
  exact ⟨mem, fcw, rest.update (fun x => { x with draws := x.draws + 1 }) rfl (fun _ _ => rfl) fun _ => rfl⟩

theorem StoreFrame.countDown (h : StoreFrame s t stored flags r) (hp : (0x0010 : Word) &&& ~~~flags = 0) (c : Reg) :
    StoreFrame s (t.countDown c) stored flags r := by
  have mask : ∀ z : Bool, ({ pv := some z } : FlagUpdate).mask = 0x0010 := by decide
  exact (h.congr (u := t.setReg c (t.reg c - 1)) rfl rfl rfl).setFlags _ (by rw [mask]; exact hp)

/-- The pointers step, the counter counts down, and flags are written of which some are free (log 4). -/
def State.countedDrawn (u : State) (ps : List Reg) (k : Word) (c : Reg) (f : FlagUpdate) : State :=
  (((u.stepPointers ps k).countDown c).setFlags f).drawn

theorem State.countedDrawn_cfg (u : State) (ps : List Reg) (k : Word) (c : Reg) (f : FlagUpdate) :
    (u.countedDrawn ps k c f).cfg = u.cfg :=
  u.stepPointers_cfg ps k

theorem State.countedDrawn_mem (u : State) (ps : List Reg) (k : Word) (c : Reg) (f : FlagUpdate) :
    (u.countedDrawn ps k c f).mem = u.mem :=
  u.stepPointers_mem ps k

theorem State.countedDrawn_flagZ (u : State) {f : FlagUpdate} {z : Bool} (h : f.z = some z) :
    flagZ (u.countedDrawn ps k c f).fcw = z := by
  rw [State.countedDrawn, State.drawn_fcw, State.setFlags_fcw, flagZ_apply, h, Option.getD_some]

/-- The flags written last do not include PV, so that it tells of the counter. -/
theorem Frame.countedDrawn (h : Frame s u [] stored 0 s.rest) (ps : List Reg) (k : Word) (c : Reg)
    (hp : (0x0010 : Word) &&& ~~~flags = 0) {f : FlagUpdate} (hn : f.pv = none) (hf : f.mask &&& ~~~flags = 0) :
    Counted s (u.countedDrawn ps k c f) ps k c ∧ StoreFrame s (u.countedDrawn ps k c f) stored flags s.restDrawn := by
  have counted := State.countDown_counted (fun m => h.regs m List.not_mem_nil) h.segmented ps k c
  refine ⟨counted.congr (fun m => ?_) ?_, ?_⟩
  · rw [State.countedDrawn, State.drawn_reg, State.setFlags_reg]
  · rw [State.countedDrawn, State.drawn_fcw, State.setFlags_fcw, flagPV_apply, hn, Option.getD_none]
  · exact (((h.anyFlags.storeFrame.stepPointers ps k).countDown hp c).setFlags f hf).drawn

/-! #### Running again -/

/-- A form that does not repeat goes on to the next instruction, whatever the counter is. -/
theorem need_finish_single {legal : Bool} {f : Fault} {g : State → State} (h : legal = true) :
    need legal f (finish s 1 g) = .next ((g (s.fetchExt 1)).againIf (false && again)) := need_finish h rfl

/-- The branch back is to the opcode word: `s.pc` is past it, and one more word has been fetched. -/
theorem Makes.runsAgain (h : Makes false (s.fetchExt 1) t l) (again : Bool) : RunsAgain s (t.againIf again) again := by
  have hpc : t.pc = s.addrAdd s.pc 2 := (h.pc rfl).trans (s.fetchExt_pc 1)
  have hcfg : t.cfg = s.cfg := h.cfg.trans (s.fetchExt_cfg 1)
  have back : t.addrAdd t.pc (-4) = s.addrAdd s.pc (-2) := by
    rw [hpc, State.addrAdd_congr hcfg, State.addrAdd_addrAdd]
    rfl
  cases again with
  | false => exact hpc
  | true => exact (congrArg (pcValue t.cfg.variant) back).trans (by rw [hcfg]; rfl)

/-- What one iteration leaves: the registers of `b` stepped and counted, `pc` at the next instruction or at the same one
again, and the bytes `stored` and the bits `flags` of FCW written. -/
def Iterates (s b t : State) (ps : List Reg) (k : Word) (c : Reg) (again : Bool) (stored : List Nat) (flags : Word)
    (r : Rest) : Prop :=
  Counted b t ps k c ∧ RunsAgain s t again ∧ StoreFrame s t stored flags r

theorem Iterates.againIf (counted : Counted b t ps k c) (frame : StoreFrame s t stored flags r)
    (makes : Makes false (s.fetchExt 1) t l) (again : Bool) :
    Iterates s b (t.againIf again) ps k c again stored flags r :=
  ⟨counted.congr (fun _ => rfl) rfl, makes.runsAgain again, frame.congr rfl rfl rfl⟩

end
end Sys2Proof.Machine

namespace Sys2Proof.Machine

open Sys2Proof

section

variable {s t u : State} {n : Nat} {w : Width n} {homes : State → Reg → List Reg} {cells : State → Addr → List Nat}
  {o : Out} {d p c : Reg} {k : Word} {repeats : Bool}

/-! ### Block loads (R401 to R408) -/

/-- A width of the elements of a block: its reads and writes of memory are of the bytes `cells`, and what is stored at
an address is what memory then holds there, whatever registers and flags become. -/
structure Width.Element (w : Width n) (homes : State → Reg → List Reg) (cells : State → Addr → List Nat) : Prop where
  steady : w.Steady
  keeps  : w.Keeps homes cells
  covers : w.Covers cells
  stored : ∀ {t u : State} {a : Addr} {v : BitVec n}, t.cfg = (w.store u a v).cfg → t.mem = (w.store u a v).mem →
    w.load t.bare a = v

theorem byteW_element : byteW.Element (fun s k => [s.byteHome k]) State.byteCells where
  steady := byteW_steady
  keeps := byteW_keeps
  covers := byteW_covers
  stored {t u a v} hc hm := (State.readByte_congr (s := t.bare) (t := (byteW.store u a v).bare) hc hm rfl .data a).trans
    (byteW_framed.get_put u (.addr a) v)

theorem wordW_element : wordW.Element (fun _ k => [k]) State.wordCells where
  steady := wordW_steady
  keeps := wordW_keeps
  covers := wordW_covers
  stored {t u a v} hc hm := (State.readWord_congr (s := t.bare) (t := (wordW.store u a v).bare) hc hm rfl .data a).trans
    (wordW_framed.get_put u (.addr a) v)

theorem moveBlock_fetchExt (hs : w.Steady) : moveBlock w k d p c (s.fetchExt 1) =
    ((w.store (w.touch (s.fetchExt 1) (s.pointer p)) (s.pointer d) (w.load s (s.pointer p))).stepPointers [d, p]
      k).countDown c := by
  rw [moveBlock, State.fetchExt_pointer, State.fetchExt_pointer, hs.load]
  rfl

/-- An element is stored before the pointers step, to the place where the first of them points. -/
theorem Width.Element.moves (hw : w.Element homes cells)
    (hx : o = .next ((moveBlock w k d p c (s.fetchExt 1)).againIf
      (repeats && (moveBlock w k d p c (s.fetchExt 1)).reg c != 0))) :
    ∃ t, o = .next t ∧ w.load t.bare (s.pointer d) = w.load s (s.pointer p) ∧
      Iterates s s t [d, p] k c (repeats && t.reg c != 0) (cells s (s.pointer d)) 0x0010 s.rest := by
  have makes := moveBlock_makes (b := false) hw.covers k d p c (s.fetchExt 1)
  rw [moveBlock_fetchExt hw.steady] at hx makes
  have written : Frame s (w.store (w.touch (s.fetchExt 1) (s.pointer p)) (s.pointer d) (w.load s (s.pointer p))) []
      (cells s (s.pointer d)) 0 s.rest :=
    hw.keeps.store (hw.keeps.touch (.fetchExt s 1 ..) _) _ _ fun _ => id
  have counted := State.countDown_counted (fun m => written.regs m List.not_mem_nil) written.segmented [d, p] k c
  have frame := (written.anyFlags.storeFrame.stepPointers [d, p] k).countDown (flags := 0x0010) (by decide) c
  exact ⟨_, hx, hw.stored rfl rfl, .againIf counted frame makes _⟩

/-- Settles O31: each of the eight is one move of an element, `Width.Element.moves`. -/
theorem blockLoadsMoveOneElement : Obligations.BlockLoadsMoveOneElement := by
  intro s d p c hd hp
  have pairs : (ptrReg s.segmented d && ptrReg s.segmented p) = true := by rw [hd, hp]; rfl
  exact ⟨wordW_element.moves (need_finish_single pairs),
    wordW_element.moves (need_finish pairs rfl),
    wordW_element.moves (need_finish_single pairs),
    wordW_element.moves (need_finish pairs rfl),
    byteW_element.moves (need_finish_single pairs),
    byteW_element.moves (need_finish pairs rfl),
    byteW_element.moves (need_finish_single pairs),
    byteW_element.moves (need_finish pairs rfl)⟩

end
end Sys2Proof.Machine

namespace Sys2Proof.Machine

open Sys2Proof

section

variable {s t u : State} {n : Nat} {w : Width n} {homes : State → Reg → List Reg} {cells : State → Addr → List Nat}
  {o : Out} {d p c : Reg} {ps : List Reg} {k : Word} {cond : CondCode} {repeats : Bool} {l : List (Access × Nat)}

/-! ### Block compares (R409 to R424, R433) -/

/-! #### The flags of a difference (R250) -/

/-- The flags that the model gives a difference are those that R250 names over the integers. -/
theorem subFlags_subC (a b : BitVec n) (f : Word) : SubFlags a b false ((subC a b false).flags.apply f) := by
  have value : (subC a b false).r = a - b := by
    have cast : BitVec.ofInt n (a.toNat - b.toNat - (false.toNat : Int)) = BitVec.ofInt n (a.toNat - b.toNat) :=
      congrArg _ (Int.sub_zero _)
    rw [subC, cast, Int.sub_eq_add_neg, BitVec.ofInt_add, BitVec.ofInt_neg, BitVec.ofInt_natCast, BitVec.ofInt_natCast,
      BitVec.ofNat_toNat, BitVec.ofNat_toNat, BitVec.setWidth_eq, BitVec.setWidth_eq, ← BitVec.sub_eq_add_neg]
  have noBorrow : a - b - BitVec.ofNat n false.toNat = a - b := BitVec.sub_zero _
  have overflow : (subC a b false).v = a.ssubOverflow b := by
    rw [BitVec.ssubOverflow_eq, ← value]
    unfold subC
    cases a.msb <;> cases b.msb <;> simp
  refine ⟨⟨?_, ?_⟩, ?_, ?_⟩
  · rw [flagZ_apply, noBorrow, ← value]
    rfl
  · rw [flagS_apply, noBorrow, ← value]
    rfl
  · rw [flagC_apply]
    simp [Sum.flags, subC]
  · rw [flagPV_apply, Sum.flags, Option.getD_some, overflow, ssubOverflow_iff]
    simp

/-! #### What a comparison leaves -/

theorem blockCompare_mask (a b : BitVec n) (cond : CondCode) (f : Word) (free : Draw) :
    (blockCompare a b cond f free).mask &&& ~~~flagsCZSP = 0 := by
  have mask : ∀ c z s : Bool, ({ c := some c, z := some z, s := some s } : FlagUpdate).mask &&& ~~~flagsCZSP = 0 := by
    decide
  exact mask _ _ _

/-- What every compare leaves once its elements `a` and `b` are read, in the state `u`. -/
theorem Undisturbed.compares (hu : Undisturbed s u) {a b : BitVec n} {free : Draw}
    (ht : t = u.countedDrawn ps k c (blockCompare a b cond s.fcw free)) (makes : Makes false (s.fetchExt 1) t l)
    (hx : o = .next (t.againIf (repeats && !flagZ t.fcw && t.reg c != 0))) :
    ∃ t, o = .next t ∧ (∃ f, SubFlags a b false f ∧ flagZ t.fcw = cc cond f) ∧
      Iterates s s t ps k c (repeats && !flagZ t.fcw && t.reg c != 0) [] flagsCZSP s.restDrawn := by
  obtain ⟨counted, frame⟩ := ht ▸ hu.countedDrawn ps k c (flags := flagsCZSP) (by decide) rfl
    (blockCompare_mask a b cond s.fcw free)
  have zero : flagZ t.fcw = cc cond ((subC a b false).flags.apply s.fcw) := ht ▸ u.countedDrawn_flagZ rfl
  exact ⟨_, hx, ⟨_, subFlags_subC a b s.fcw, zero⟩, .againIf counted frame makes _⟩

theorem compareBlock_fetchExt (hs : w.Steady) : compareBlock w k d p c cond (s.fetchExt 1) =
    (w.touch (s.fetchExt 1) (s.pointer p)).countedDrawn [p] k c
      (blockCompare (w.getReg s d) (w.load s (s.pointer p)) cond s.fcw s.draw) := by
  rw [compareBlock, State.fetchExt_pointer, State.fetchExt_fcw, State.fetchExt_draw, hs.load, hs.getReg]
  rfl

theorem compareStrings_fetchExt (hs : w.Steady) : compareStrings w k d p c cond (s.fetchExt 1) =
    (w.touch (w.touch (s.fetchExt 1) (s.pointer d)) (s.pointer p)).countedDrawn [d, p] k c
      (blockCompare (w.load s (s.pointer d)) (w.load s (s.pointer p)) cond s.fcw s.draw) := by
  rw [compareStrings, State.fetchExt_pointer, State.fetchExt_pointer, State.fetchExt_fcw, State.fetchExt_draw, hs.load,
    hs.load]
  rfl

/-- R409 to R416. The register is read before the pointer and the counter change (log 18). -/
theorem Width.Element.comparesRegister (hw : w.Element homes cells)
    (hx : o = .next ((compareBlock w k d p c cond (s.fetchExt 1)).againIf
      (repeats && !flagZ (compareBlock w k d p c cond (s.fetchExt 1)).fcw &&
        (compareBlock w k d p c cond (s.fetchExt 1)).reg c != 0))) :
    ∃ t, o = .next t ∧
      (∃ f, SubFlags (w.getReg s d) (w.load s (s.pointer p)) false f ∧ flagZ t.fcw = cc cond f) ∧
      Iterates s s t [p] k c (repeats && !flagZ t.fcw && t.reg c != 0) [] flagsCZSP s.restDrawn :=
  Undisturbed.compares (hw.keeps.touch (.fetchExt s 1 ..) _) (compareBlock_fetchExt hw.steady)
    (compareBlock_makes hw.covers ..) hx

/-- R417 to R424. -/
theorem Width.Element.comparesStrings (hw : w.Element homes cells)
    (hx : o = .next ((compareStrings w k d p c cond (s.fetchExt 1)).againIf
      (repeats && !flagZ (compareStrings w k d p c cond (s.fetchExt 1)).fcw &&
        (compareStrings w k d p c cond (s.fetchExt 1)).reg c != 0))) :
    ∃ t, o = .next t ∧
      (∃ f, SubFlags (w.load s (s.pointer d)) (w.load s (s.pointer p)) false f ∧ flagZ t.fcw = cc cond f) ∧
      Iterates s s t [d, p] k c (repeats && !flagZ t.fcw && t.reg c != 0) [] flagsCZSP s.restDrawn :=
  Undisturbed.compares (hw.keeps.touch (hw.keeps.touch (.fetchExt s 1 ..) _) _) (compareStrings_fetchExt hw.steady)
    (compareStrings_makes hw.covers ..) hx

/-- Settles O32: eight compare a register and eight a second element; `Undisturbed.compares` says what both leave. -/
theorem blockComparesTestTheCondition : Obligations.BlockComparesTestTheCondition := by
  refine ⟨fun s d p c cond hp => ?_, fun s d p c cond hd hp => ?_⟩
  · exact ⟨wordW_element.comparesRegister (need_finish_single hp),
      wordW_element.comparesRegister (need_finish hp rfl),
      wordW_element.comparesRegister (need_finish_single hp),
      wordW_element.comparesRegister (need_finish hp rfl),
      byteW_element.comparesRegister (need_finish_single hp),
      byteW_element.comparesRegister (need_finish hp rfl),
      byteW_element.comparesRegister (need_finish_single hp),
      byteW_element.comparesRegister (need_finish hp rfl)⟩
  · have pairs : (ptrReg s.segmented d && ptrReg s.segmented p) = true := by rw [hd, hp]; rfl
    exact ⟨wordW_element.comparesStrings (need_finish_single pairs),
      wordW_element.comparesStrings (need_finish pairs rfl),
      wordW_element.comparesStrings (need_finish_single pairs),
      wordW_element.comparesStrings (need_finish pairs rfl),
      byteW_element.comparesStrings (need_finish_single pairs),
      byteW_element.comparesStrings (need_finish pairs rfl),
      byteW_element.comparesStrings (need_finish_single pairs),
      byteW_element.comparesStrings (need_finish pairs rfl)⟩

end
end Sys2Proof.Machine

namespace Sys2Proof.Machine

open Sys2Proof

section

variable {s t u : State} {o : Out} {d p c : Reg} {k : Word} {repeats : Bool} {flags : Word}

/-! ### Translates (R425 to R432, R434) -/

theorem State.tableEntry_fetchExt (s : State) (j : Nat) (p : Reg) (v : Byte) :
    (s.fetchExt j).tableEntry p v = s.addrAdd (s.pointer p) (BitVec.ofNat 16 v.toNat) := by
  rw [State.tableEntry_eq, State.fetchExt_addrAdd, State.fetchExt_pointer]

/-- R434: the entry in the table at `p` of the byte at `d`. -/
def State.translation (s : State) (d p : Reg) : Byte :=
  s.readByte .data (s.addrAdd (s.pointer p) (BitVec.ofNat 16 (s.readByte .data (s.pointer d)).toNat))

/-- The state in which it has been read, the instruction's words fetched. -/
def State.readEntry (s : State) (d p : Reg) : State := (s.fetchExt 1).touchEntry (s.pointer d) p

theorem State.readEntry_undisturbed (s : State) (d p : Reg) : Undisturbed s (s.readEntry d p) :=
  ((Undisturbed.fetchExt s 1).access _ _).access _ _

theorem mask_z (h : (0x0040 : Word) &&& ~~~flags = 0) (z : Bool) :
    ({ z := some z } : FlagUpdate).mask &&& ~~~flags = 0 := by
  have mask : ∀ z : Bool, ({ z := some z } : FlagUpdate).mask = 0x0040 := by decide
  rw [mask, h]

/-! #### A byte replaced (R425 to R428) -/

theorem translate_fetchExt (k : Word) (d p c : Reg) (s : State) : translate k d p c (s.fetchExt 1) =
    ((s.readEntry d p).writeByte .data (s.pointer d) (s.translation d p)).countedDrawn [d] k c
      { z := some s.draw.z } := by
  simp only [translate, State.fetchExt_pointer, State.fetchExt_readByte, State.tableEntry_fetchExt,
    State.fetchExt_draw]
  rfl

theorem translate_translates (hx : o = .next ((translate k d p c (s.fetchExt 1)).againIf
      (repeats && (translate k d p c (s.fetchExt 1)).reg c != 0))) :
    ∃ t, o = .next t ∧ t.bare.readByte .data (s.pointer d) = s.translation d p ∧
      Iterates s s t [d] k c (repeats && t.reg c != 0) (s.byteCells (s.pointer d)) flagsZP s.restDrawn := by
  have makes := translate_makes (b := false) k d p c (s.fetchExt 1)
  rw [translate_fetchExt] at hx makes
  have written : Frame s ((s.readEntry d p).writeByte .data (s.pointer d) (s.translation d p)) []
      (s.byteCells (s.pointer d)) 0 s.rest :=
    byteW_keeps.store (s.readEntry_undisturbed d p).frame _ _ fun _ => id
  obtain ⟨counted, frame⟩ := written.countedDrawn [d] k c (flags := flagsZP) (by decide) rfl
    (mask_z (by decide) s.draw.z)
  exact ⟨_, hx, byteW_element.stored (State.countedDrawn_cfg _ [d] k c { z := some s.draw.z })
    (State.countedDrawn_mem _ [d] k c { z := some s.draw.z }), .againIf counted frame makes _⟩

/-! #### A byte tested (R429 to R432) -/

/-- A byte in RH1, with Z for it. -/
def State.testedInRH1 (u : State) (low x : Byte) : State := (u.setReg 1 (x ++ low)).setFlags { z := some (isZero x) }

theorem translateTest_fetchExt (k : Word) (d p c : Reg) (s : State) : translateTest k d p c (s.fetchExt 1) =
    (((s.readEntry d p).testedInRH1 ((s.reg 1).extractLsb' 0 8) (s.translation d p)).stepPointers [d] k).countDown
      c := by
  simp only [translateTest, State.fetchExt_pointer, State.fetchExt_readByte, State.tableEntry_fetchExt]
  have kept : ((s.fetchExt 1).touchEntry (s.pointer d) p).reg 1 = s.reg 1 :=
    (s.readEntry_undisturbed d p).regs 1 List.not_mem_nil
  rw [← kept]
  rfl

/-- The registers are those of `s` with RH1 written. -/
theorem Undisturbed.testedInRH1_reg (hu : Undisturbed s u) (low x : Byte) (n : Reg) :
    (u.testedInRH1 low x).reg n = (s.setReg 1 (x ++ low)).reg n := by
  rw [State.testedInRH1, State.setFlags_reg, State.reg_setReg, State.reg_setReg, hu.regs n List.not_mem_nil]

theorem Undisturbed.testedInRH1_frame (hu : Undisturbed s u) (low x : Byte) :
    Frame s (u.testedInRH1 low x) [1] [] flagsZP s.rest :=
  (hu.frame.setReg 1 _ (List.mem_singleton_self 1)).setFlags _ (mask_z (by decide) _)

/-- RH1 holds the entry before the pointer and the counter change (log 18), which may be R1. -/
theorem translateTest_tests (hx : o = .next ((translateTest k d p c (s.fetchExt 1)).againIf
      (repeats && flagZ (translateTest k d p c (s.fetchExt 1)).fcw &&
        (translateTest k d p c (s.fetchExt 1)).reg c != 0))) :
    ∃ t, o = .next t ∧ flagZ t.fcw = decide (s.translation d p = 0) ∧
      Iterates s (s.setReg 1 (s.translation d p ++ (s.reg 1).extractLsb' 0 8)) t [d] k c
        (repeats && decide (s.translation d p = 0) && t.reg c != 0) [] flagsZP s.rest := by
  have makes := translateTest_makes (b := false) k d p c (s.fetchExt 1)
  have read := s.readEntry_undisturbed d p
  have zero : flagZ (translateTest k d p c (s.fetchExt 1)).fcw = decide (s.translation d p = 0) := by
    rw [translateTest_fetchExt, State.countDown_flagZ, State.stepPointers_fcw, State.testedInRH1, State.setFlags_fcw,
      flagZ_apply]
    rfl
  rw [zero] at hx
  rw [translateTest_fetchExt] at hx makes zero
  have counted := State.countDown_counted (read.testedInRH1_reg ((s.reg 1).extractLsb' 0 8) (s.translation d p))
    (by simpa [State.testedInRH1] using read.segmented) [d] k c
  have frame := ((read.testedInRH1_frame ((s.reg 1).extractLsb' 0 8) (s.translation d p)).storeFrame.stepPointers
    [d] k).countDown (by decide) c
  exact ⟨_, hx, zero, .againIf counted frame makes _⟩

/-- Settles O33: four replace the byte by its entry in the table, and four test the entry. -/
theorem translatesUseTheTable : Obligations.TranslatesUseTheTable := by
  refine ⟨fun s d p c hd hp => ?_, fun s d p c hd hp => ?_⟩
  all_goals have pairs : (ptrReg s.segmented d && ptrReg s.segmented p) = true := by rw [hd, hp]; rfl
  · exact ⟨translate_translates (need_finish_single pairs), translate_translates (need_finish pairs rfl),
      translate_translates (need_finish_single pairs), translate_translates (need_finish pairs rfl)⟩
  · exact ⟨translateTest_tests (need_finish_single pairs), translateTest_tests (need_finish pairs rfl),
      translateTest_tests (need_finish_single pairs), translateTest_tests (need_finish pairs rfl)⟩

end
end Sys2Proof.Machine

namespace Sys2Proof.Machine

open Sys2Proof

section

variable {s t u : State} {n j : Nat} {w : Width n} {io : IoWidth n} {F : State → State → Place → Word → Rest → Prop}
  {homes : State → Reg → List Reg} {cells : State → Addr → List Nat} {o : Out} {e : IoEvent} {mode : IoMode}
  {d p c : Reg} {port k : Word} {q : Place} {z legal again repeats : Bool} {f : Fault} {g : State → State}
  {regs : List Reg} {stored : List Nat} {flags : Word} {r : Rest} {l : List (Access × Nat)}

/-! ### Transactions on the I/O bus (46_io.md R440)

What an input does with its value it does after the transaction, and so in a state whose list of transactions (log 5) is
longer than that of `s`. A frame from `s` speaks of that list in its last argument only: frames are built from
`s.logged e`, where the rules of the other instructions apply, and then read as frames from `s`. -/

/-- The state but for one more transaction in its list. -/
def State.logged (s : State) (e : IoEvent) : State := { s with ioLog := e :: s.ioLog }

theorem frame_logged_iff : Frame (s.logged e) t regs stored flags r ↔ Frame s t regs stored flags r :=
  ⟨fun h => ⟨h.regs, h.mem, h.fcw, h.rest⟩, fun h => ⟨h.regs, h.mem, h.fcw, h.rest⟩⟩

/-- A transaction is logged, and changes nothing else. -/
theorem Undisturbed.ioEvent_logged (hu : Undisturbed s u) (e : IoEvent) : Undisturbed (s.logged e) (u.ioEvent e) :=
  frame_logged_iff.2 (hu.ioEvent e)

theorem wordFrame_of_logged (h : WordFrame (s.logged e) t q flags r) : WordFrame s t q flags r := by
  cases q with
  | reg _ => exact frame_logged_iff.1 h
  | addr _ => exact frame_logged_iff.1 h

theorem byteFrame_of_logged (h : ByteFrame (s.logged e) t q flags r) : ByteFrame s t q flags r := by
  cases q with
  | reg _ => exact ⟨frame_logged_iff.1 h.1, h.2⟩
  | addr _ => exact frame_logged_iff.1 h

/-! #### In system mode (R440) -/

theorem priv_finish (hs : s.system = true) (hg : g (s.fetchExt j) = t) : priv s (finish s j g) = .next t :=
  (priv_of s _ hs).trans (congrArg Host.Outcome.next hg)

theorem priv_need_finish (hs : s.system = true) (h : legal = true) (hg : g (s.fetchExt j) = t) :
    priv s (need legal f (finish s j g)) = .next t :=
  (priv_of s _ hs).trans (need_finish h hg)

theorem priv_need_finish_single (hs : s.system = true) (h : legal = true) :
    priv s (need legal f (finish s 1 g)) = .next ((g (s.fetchExt 1)).againIf (false && again)) :=
  (priv_of s _ hs).trans (need_finish_single h)

/-! #### Single transfers (R441 to R448) -/

/-- The value logged is the one that reaches the register. -/
theorem Width.Framed.inputs (hw : w.Framed F)
    (unlogged : ∀ {t : State} {e : IoEvent}, F (s.logged e) t (.reg d) 0 (s.logged e).rest →
      F s t (.reg d) 0 (s.logged e).rest)
    (hx : o = .next (inputTo io w mode d port (s.fetchExt j))) :
    ∃ t v, o = .next t ∧ (Place.reg d).get w t.bare = v ∧
      F s t (.reg d) 0 { s.rest with ioLog := io.inEvent port mode v :: s.ioLog } :=
  ⟨_, io.input (s.fetchExt j) port mode, hx, hw.get_put _ (.reg d) _,
    unlogged (hw.put ((Undisturbed.fetchExt s j).ioEvent_logged _) (.reg d) _)⟩

theorem Width.Steady.outputs (hw : w.Steady) (hx : o = .next (outputFrom io w mode port p (s.fetchExt j))) :
    ∃ t, o = .next t ∧
      Frame s t [] [] 0 { s.rest with ioLog := io.outEvent port (w.getReg s p) mode :: s.ioLog } := by
  rw [outputFrom, hw.getReg] at hx
  exact ⟨_, hx, (Undisturbed.fetchExt s j).ioEvent _⟩

/-- Settles O34: each of the eight is one input to a register, or one output from a register. -/
theorem portTransfersMakeOneTransaction : Obligations.PortTransfersMakeOneTransaction := by
  intro s r hs
  exact ⟨fun q => wordW_framed.inputs (io := wordIo) wordFrame_of_logged
      (priv_finish hs (by rw [PortOp.port_fetchExt])),
    fun q => byteW_framed.inputs (io := byteIo) byteFrame_of_logged
      (priv_finish hs (by rw [PortOp.port_fetchExt])),
    fun q => wordW_framed.inputs (io := wordIo) wordFrame_of_logged (priv_finish hs rfl),
    fun q => byteW_framed.inputs (io := byteIo) byteFrame_of_logged (priv_finish hs rfl),
    fun q => wordW_steady.outputs (io := wordIo) (priv_finish hs (by rw [PortOp.port_fetchExt])),
    fun q => byteW_steady.outputs (io := byteIo) (priv_finish hs (by rw [PortOp.port_fetchExt])),
    fun q => wordW_steady.outputs (io := wordIo) (priv_finish hs rfl),
    fun q => byteW_steady.outputs (io := byteIo) (priv_finish hs rfl)⟩

/-! #### Block transfers (R449 to R480) -/

/-- What one iteration leaves once its transaction `e` is made and its element moved, in the state `u`. -/
theorem Frame.iteratesLogged (hu : Frame (s.logged e) u [] stored 0 (s.logged e).rest)
    (makes : Makes false (s.fetchExt 1) (u.countedDrawn [p] k c { z := some z }) l) (again : Bool) :
    Iterates s s ((u.countedDrawn [p] k c { z := some z }).againIf again) [p] k c again stored flagsZP
      { s.restDrawn with ioLog := e :: s.ioLog } := by
  obtain ⟨counted, frame⟩ : Counted s (u.countedDrawn [p] k c { z := some z }) [p] k c ∧
      StoreFrame s (u.countedDrawn [p] k c { z := some z }) stored flagsZP
        { s.restDrawn with ioLog := e :: s.ioLog } :=
    hu.countedDrawn [p] k c (by decide) rfl (mask_z (by decide) z)
  exact .againIf counted frame makes again

/-- R449: the port and the memory pointer are those of `s`, and the value is what the bus answers. -/
theorem inputBlock_fetchExt (io : IoWidth n) (w : Width n) (mode : IoMode) (k : Word) (d p c : Reg) (s : State) :
    ∃ v, inputBlock io w mode k d p c (s.fetchExt 1) =
      (w.store ((s.fetchExt 1).ioEvent (io.inEvent (s.reg p) mode v)) (s.pointer d) v).countedDrawn [d] k c
        { z := some s.draw.z } := by
  refine ⟨io.input (s.fetchExt 1) (s.reg p) mode, ?_⟩
  rw [inputBlock, State.fetchExt_reg, State.fetchExt_pointer, State.fetchExt_draw]
  rfl

/-- R457: the element is the one at the memory pointer of `s`. -/
theorem outputBlock_fetchExt (hs : w.Steady) : outputBlock io w mode k d p c (s.fetchExt 1) =
    ((w.touch (s.fetchExt 1) (s.pointer p)).ioEvent
      (io.outEvent (s.reg d) (w.load s (s.pointer p)) mode)).countedDrawn [p] k c { z := some s.draw.z } := by
  rw [outputBlock, State.fetchExt_reg, State.fetchExt_pointer, State.fetchExt_draw, hs.load]
  rfl

/-- The value logged is the value stored. -/
theorem Width.Element.inputs (hw : w.Element homes cells) (hio : io.AtPort)
    (hx : o = .next ((inputBlock io w mode k d p c (s.fetchExt 1)).againIf
      (repeats && (inputBlock io w mode k d p c (s.fetchExt 1)).reg c != 0))) :
    ∃ t v, o = .next t ∧ w.load t.bare (s.pointer d) = v ∧
      Iterates s s t [d] k c (repeats && t.reg c != 0) (cells s (s.pointer d)) flagsZP
        { s.restDrawn with ioLog := io.inEvent (s.reg p) mode v :: s.ioLog } := by
  have makes := inputBlock_makes (b := false) hio hw.covers mode k d p c (s.fetchExt 1)
  obtain ⟨v, eq⟩ := inputBlock_fetchExt io w mode k d p c s
  rw [eq] at hx makes
  have sameCells : cells (s.logged (io.inEvent (s.reg p) mode v)) = cells s := hw.covers.congr rfl
  have written : Frame (s.logged (io.inEvent (s.reg p) mode v))
      (w.store ((s.fetchExt 1).ioEvent (io.inEvent (s.reg p) mode v)) (s.pointer d) v) [] (cells s (s.pointer d)) 0
      (s.logged (io.inEvent (s.reg p) mode v)).rest :=
    hw.keeps.store ((Undisturbed.fetchExt s 1).ioEvent_logged _).frame _ _ fun _ hc => sameCells ▸ hc
  exact ⟨_, v, hx, hw.stored (State.countedDrawn_cfg _ [d] k c { z := some s.draw.z })
    (State.countedDrawn_mem _ [d] k c { z := some s.draw.z }), written.iteratesLogged makes _⟩

theorem Width.Element.outputs (hw : w.Element homes cells) (hio : io.AtPort)
    (hx : o = .next ((outputBlock io w mode k d p c (s.fetchExt 1)).againIf
      (repeats && (outputBlock io w mode k d p c (s.fetchExt 1)).reg c != 0))) :
    ∃ t, o = .next t ∧ Iterates s s t [p] k c (repeats && t.reg c != 0) [] flagsZP
      { s.restDrawn with ioLog := io.outEvent (s.reg d) (w.load s (s.pointer p)) mode :: s.ioLog } := by
  have makes := outputBlock_makes (b := false) (w := w) hio hw.covers mode k d p c (s.fetchExt 1)
  rw [outputBlock_fetchExt hw.steady] at hx makes
  have read : Undisturbed s (w.touch (s.fetchExt 1) (s.pointer p)) := hw.keeps.touch (Undisturbed.fetchExt s 1) _
  exact ⟨_, hx, (read.ioEvent_logged _).iteratesLogged makes _⟩

/-- Settles O35: each of the sixteen is one input of an element, `Width.Element.inputs`. -/
theorem blockInputsStoreOneElement : Obligations.BlockInputsStoreOneElement := by
  intro s d p c hs hd word byte
  have words : ∀ {i : Instr} {mode : IoMode} {k : Word} {repeats : Bool},
      exec i s = .next ((inputBlock wordIo wordW mode k d p c (s.fetchExt 1)).againIf
        (repeats && (inputBlock wordIo wordW mode k d p c (s.fetchExt 1)).reg c != 0)) → word i mode k repeats :=
    wordW_element.inputs wordIo_atPort
  have bytes : ∀ {i : Instr} {mode : IoMode} {k : Word} {repeats : Bool},
      exec i s = .next ((inputBlock byteIo byteW mode k d p c (s.fetchExt 1)).againIf
        (repeats && (inputBlock byteIo byteW mode k d p c (s.fetchExt 1)).reg c != 0)) → byte i mode k repeats :=
    byteW_element.inputs byteIo_atPort
  exact ⟨words (priv_need_finish_single hs hd), words (priv_need_finish hs hd rfl),
    words (priv_need_finish_single hs hd), words (priv_need_finish hs hd rfl),
    bytes (priv_need_finish_single hs hd), bytes (priv_need_finish hs hd rfl),
    bytes (priv_need_finish_single hs hd), bytes (priv_need_finish hs hd rfl),
    words (priv_need_finish_single hs hd), words (priv_need_finish hs hd rfl),
    words (priv_need_finish_single hs hd), words (priv_need_finish hs hd rfl),
    bytes (priv_need_finish_single hs hd), bytes (priv_need_finish hs hd rfl),
    bytes (priv_need_finish_single hs hd), bytes (priv_need_finish hs hd rfl)⟩

/-- Settles O36: each of the sixteen is one output of an element, `Width.Element.outputs`. -/
theorem blockOutputsSendOneElement : Obligations.BlockOutputsSendOneElement := by
  intro s d p c hs hp sends word byte
  have words : ∀ {i : Instr} {mode : IoMode} {k : Word} {repeats : Bool},
      exec i s = .next ((outputBlock wordIo wordW mode k d p c (s.fetchExt 1)).againIf
        (repeats && (outputBlock wordIo wordW mode k d p c (s.fetchExt 1)).reg c != 0)) → word i mode k repeats :=
    wordW_element.outputs wordIo_atPort
  have bytes : ∀ {i : Instr} {mode : IoMode} {k : Word} {repeats : Bool},
      exec i s = .next ((outputBlock byteIo byteW mode k d p c (s.fetchExt 1)).againIf
        (repeats && (outputBlock byteIo byteW mode k d p c (s.fetchExt 1)).reg c != 0)) → byte i mode k repeats :=
    byteW_element.outputs byteIo_atPort
  exact ⟨words (priv_need_finish_single hs hp), words (priv_need_finish hs hp rfl),
    words (priv_need_finish_single hs hp), words (priv_need_finish hs hp rfl),
    bytes (priv_need_finish_single hs hp), bytes (priv_need_finish hs hp rfl),
    bytes (priv_need_finish_single hs hp), bytes (priv_need_finish hs hp rfl),
    words (priv_need_finish_single hs hp), words (priv_need_finish hs hp rfl),
    words (priv_need_finish_single hs hp), words (priv_need_finish hs hp rfl),
    bytes (priv_need_finish_single hs hp), bytes (priv_need_finish hs hp rfl),
    bytes (priv_need_finish_single hs hp), bytes (priv_need_finish hs hp rfl)⟩

end
end Sys2Proof.Machine

namespace Sys2Proof.Machine

open Sys2Proof

section

variable {s t : State} {regs : List Reg} {stored : List Nat} {flags : Word} {r : Rest}

/-! ### EI, DI, HALT and the multi-micro instructions (47_system.md R510 to R523) -/

/-- R510: the operand bit that selects VI is the one `EIDI_BIT_MAP` names. -/
theorem selVi_iff (p : EidiBitMap) (a b : BitVec 1) : selVi p a b = true ↔ (if p = .doc then b else a) = 0 := by
  cases p <;> simp [selVi]

theorem selNvi_iff (p : EidiBitMap) (a b : BitVec 1) : selNvi p a b = true ↔ (if p = .doc then a else b) = 0 := by
  cases p <;> simp [selNvi]

/-- What EI and DI leave of each bit of FCW. -/
theorem setEnables_getLsbD (s : State) (a b : BitVec 1) (on : Bool) (j : Nat) : (s.setEnables a b on).fcw.getLsbD j =
    if j = 12 then if selVi s.cfg.eidiBitMap a b then on else fcwVie s.fcw
    else if j = 11 then if selNvi s.cfg.eidiBitMap a b then on else fcwNvie s.fcw
    else s.fcw.getLsbD j := by
  have getD_ite : ∀ (sel old : Bool), (if sel then some on else none).getD old = if sel then on else old := by
    intro sel old
    cases sel <;> rfl
  refine (putFlag_getLsbD _ 12 j _ (by decide)).trans ?_
  rw [putFlag_getLsbD _ 11 j _ (by decide), putFlag_getLsbD _ 11 12 _ (by decide), getD_ite, getD_ite]
  rfl

theorem setEnables_vie (s : State) (a b : BitVec 1) (on : Bool) : fcwVie (s.setEnables a b on).fcw =
    if (if s.cfg.eidiBitMap = .doc then b else a) = 0 then on else fcwVie s.fcw := by
  simp only [← selVi_iff]
  exact setEnables_getLsbD s a b on 12

theorem setEnables_nvie (s : State) (a b : BitVec 1) (on : Bool) : fcwNvie (s.setEnables a b on).fcw =
    if (if s.cfg.eidiBitMap = .doc then a else b) = 0 then on else fcwNvie s.fcw := by
  simp only [← selNvi_iff]
  exact setEnables_getLsbD s a b on 11

/-- No bit of FCW but the two enables is written. -/
theorem setEnables_frame (s : State) (a b : BitVec 1) (on : Bool) :
    Frame s (s.setEnables a b on) [] [] 0x1800 s.rest := by
  have others : ∀ j < 16, (~~~(0x1800 : Word)).getLsbD j = true → j ≠ 12 ∧ j ≠ 11 := by decide
  refine .of_fcw (and_congr_of_bits fun j hj kept => ?_)
  obtain ⟨vi, nvi⟩ := others j hj kept
  exact (setEnables_getLsbD s a b on j).trans ((if_neg vi).trans (if_neg nvi))

/-- The multi-micro flag written. -/
theorem Frame.setMi (h : Frame s t regs stored flags r) (b : Bool) :
    Frame s { t with mi := b } regs stored flags { r with mi := b } :=
  ⟨h.regs, h.mem, h.fcw, h.rest.update (fun x => { x with mi := b }) rfl (fun _ _ => rfl) fun _ => rfl⟩

/-- Settles O39: EI and DI are `State.setEnables`; each of the others writes one field, and MREQ what it draws. -/
theorem enablesHaltAndMultiMicro : Obligations.EnablesHaltAndMultiMicro := by
  refine ⟨fun s a b hs => ?_, fun s => ⟨⟨s, rfl, rfl, Undisturbed.refl s⟩, fun hs => ?_⟩⟩
  · intro vi nvi enables
    have sets : ∀ {i : Instr} {on : Bool}, exec i s = .next (s.setEnables a b on) → enables i on := fun hx =>
      ⟨_, hx, setEnables_vie s a b _, setEnables_nvie s a b _, setEnables_frame s a b _⟩
    exact ⟨sets (priv_finish hs rfl), sets (priv_finish hs rfl)⟩
  · have start : ∀ {regs stored flags}, Frame s s regs stored flags s.rest := (Undisturbed.refl s).frame
    exact ⟨⟨_, priv_finish hs rfl, rfl, .of_rest rfl rfl rfl rfl⟩, ⟨_, priv_finish hs rfl, start.setMi true⟩,
      ⟨_, priv_finish hs rfl, start.setMi false⟩,
      ⟨_, priv_finish hs rfl, flagS_apply _ _, start.setFlags _ (mask_s _)⟩,
      fun d => ⟨_, priv_finish hs rfl,
        (((start.setReg d _ (List.mem_singleton_self d)).setFlags _ (mask_zs _ _)).drawn).setMi _⟩⟩

/-- Settles O43: of the two checks every instruction makes, the mode comes first. -/
theorem privilegedInstructionsTrapInNormalMode : Obligations.PrivilegedInstructionsTrapInNormalMode :=
  fun _ _ => exec_of_privileged_of_normal

end
end Sys2Proof.Machine

namespace Sys2Proof.Machine

open Sys2Proof

section

variable {s : State} {c : Cause}

/-! ### Service (60_exceptions.md R600, R606, R620) -/

/-- Every cause stands in the order of R600 after the causes that come before it. -/
theorem causes_eq_append (c : Cause) : ∃ later, causes = causes.takeWhile (· != c) ++ c :: later := by
  cases c <;> exact ⟨_, rfl⟩

theorem State.topCause_of_first (hc : s.isPending c = true)
    (first : ∀ d ∈ causes.takeWhile (· != c), s.isPending d = false) : s.topCause = some c := by
  obtain ⟨later, split⟩ := causes_eq_append c
  exact List.find?_eq_some_iff_append.2 ⟨hc, _, later, split, fun d hd => by rw [first d hd]; rfl⟩

theorem State.topCause_of_none (h : ∀ c, s.isPending c = false) : s.topCause = none :=
  List.find?_eq_none.2 fun c _ => by rw [h c]; exact Bool.false_ne_true

/-- Without a pending cause service does nothing. -/
theorem State.service_of_none (h : s.topCause = none) : s.service = s := by
  rw [State.service, h]

theorem State.charge_zero (s : State) : s.charge 0 = s := by
  simp [State.charge]

theorem State.service_of_reset (h : s.topCause = some .reset) : s.service = s.resetService := by
  rw [State.service, h]
  exact s.resetService.charge_zero

theorem State.service_of_cause (hc : c ≠ .reset) (h : s.topCause = some c) :
    s.service = (s.enter c).charge (serviceCost s.cfg c) := by
  rw [State.service, h]
  cases c with
  | reset => exact absurd rfl hc
  | _ => rfl

/-- Settles O48: what is pending and has nothing pending before it is what `State.topCause` finds. -/
theorem serviceTakesTheHighestPriority : Obligations.ServiceTakesTheHighestPriority := by
  intro s order
  refine ⟨Bool.and_eq_true_iff, Bool.and_eq_true_iff, ⟨rfl, rfl, rfl, rfl, rfl, rfl⟩,
    fun h => State.service_of_none (State.topCause_of_none h), fun c hc first => ?_⟩
  have top : s.topCause = some c := State.topCause_of_first hc first
  split
  next hr => exact State.service_of_reset (hr ▸ top)
  next hr => exact State.service_of_cause hr top

/-- Settles O52: a rising edge is the one case in which `State.writeNmi` latches. -/
theorem nmiIsLatchedOnARisingEdge : Obligations.NmiIsLatchedOnARisingEdge := by
  intro s v
  unfold State.writeNmi
  cases hv : v && !s.nmiState with
  | true => exact ⟨rfl, rfl, rfl, by rw [Bool.or_true]; rfl⟩
  | false => exact ⟨rfl, rfl, rfl, by rw [Bool.or_false]; rfl⟩

/-! ### The table of the program status area (R611 to R613) -/

/-- R611: the vector is a byte. -/
theorem State.vector_eq (s : State) : s.vector = s.irqVec.toNat % 256 := by
  rw [State.vector, lowByte, BitVec.extractLsb'_toNat, Nat.shiftRight_zero]

theorem Cause.slot_le (c : Cause) : c.slot ≤ 7 := by cases c <;> decide

/-- R612 on the Z8002: four bytes for each cause, FCW first; VI goes on with a word for each vector. -/
theorem State.psaFcwOffset_z8002 (h : s.cfg.variant = .z8002) (c : Cause) : (s.psaFcwOffset c).toNat = 4 * c.slot := by
  rw [State.psaFcwOffset, h]
  cases c <;> rfl

theorem State.psaPcOffset_z8002 (h : s.cfg.variant = .z8002) (c : Cause) :
    (s.psaPcOffset c).toNat = 4 * c.slot + 2 + if c = .vi then 2 * (s.irqVec.toNat % 256) else 0 := by
  rw [State.psaPcOffset, h, s.vector_eq]
  have place := c.slot_le
  refine (BitVec.toNat_ofNat ..).trans ?_
  split_ifs <;> omega

/-- R612 on the Z8001: eight bytes for each cause, of which the first two are not used. -/
theorem State.psaFcwOffset_z8001 (h : s.cfg.variant = .z8001) (c : Cause) :
    (s.psaFcwOffset c).toNat = 8 * c.slot + 2 := by
  rw [State.psaFcwOffset, h]
  cases c <;> rfl

theorem State.psaPcOffset_z8001 (h : s.cfg.variant = .z8001) (c : Cause) :
    (s.psaPcOffset c).toNat = 8 * c.slot + 4 + if c = .vi then 4 * (s.irqVec.toNat % 256) else 0 := by
  rw [State.psaPcOffset, h, s.vector_eq]
  have place := c.slot_le
  refine (BitVec.toNat_ofNat ..).trans ?_
  split_ifs <;> omega

/-- A PC entry of the Z8001 has a second word, two bytes on (R613). -/
theorem State.psaPcOffset_z8001_second (h : s.cfg.variant = .z8001) (c : Cause) :
    (s.psaPcOffset c + 2).toNat = 8 * c.slot + 6 + if c = .vi then 4 * (s.irqVec.toNat % 256) else 0 := by
  have two : (2 : Word).toNat = 2 := rfl
  have place := c.slot_le
  rw [BitVec.toNat_add, State.psaPcOffset_z8001 h, two]
  split <;> omega

/-- R613: where a word of the program status area is, in the segment of PSAP on the Z8001. -/
theorem State.psaWord_z8002 (h : s.cfg.variant = .z8002) (o : Word) :
    s.psaWord o = s.readWord .program (0#7 ++ (s.psapOff + o)) := by
  have base : s.psapBase = 0#7 ++ s.psapOff := by rw [State.psapBase, h]
  rw [State.psaWord, base, s.addrAdd_append (seg := 0#7) fun _ => rfl]

theorem State.psaWord_z8001 (h : s.cfg.variant = .z8001) (o : Word) :
    s.psaWord o = s.readWord .program (s.psapSeg.extractLsb' 8 7 ++ (s.psapOff + o)) := by
  have base : s.psapBase = s.psapSeg.extractLsb' 8 7 ++ s.psapOff := by rw [State.psapBase, h]; rfl
  rw [State.psaWord, base, s.addrAdd_append fun h2 => by rw [h] at h2; cases h2]

/-- Settles O50: the table by the place of each cause, and its words by `State.psaWord`. -/
theorem programStatusAreaLayout : Obligations.ProgramStatusAreaLayout := by
  intro s v entry
  refine ⟨fun h => ?_, fun h => ?_⟩
  · have row : ∀ c, entry c (4 * c.slot) (4 * c.slot + 2 + if c = .vi then 2 * v else 0) := fun c =>
      ⟨State.psaFcwOffset_z8002 h c, State.psaPcOffset_z8002 h c⟩
    refine ⟨row .epu, row .trap, row .syscall, row .segtrap, row .nmi, row .nvi, row .vi,
      fun c => State.psaWord_z8002 h _, fun c => ?_⟩
    rw [State.vectorPc, h, ← State.psaWord_z8002 h]
  · have row : ∀ c, entry c (8 * c.slot + 2) (8 * c.slot + 4 + if c = .vi then 4 * v else 0) := fun c =>
      ⟨State.psaFcwOffset_z8001 h c, State.psaPcOffset_z8001 h c⟩
    have second := State.psaPcOffset_z8001_second h
    refine ⟨row .epu, row .trap, row .syscall, row .segtrap, row .nmi, row .nvi, row .vi, second .epu, second .trap,
      second .syscall, second .segtrap, second .nmi, second .nvi, second .vi,
      fun c => State.psaWord_z8001 h _, fun c => ?_⟩
    rw [State.vectorPc, h, ← State.psaWord_z8001 h, ← State.psaWord_z8001 h]
    rfl

end
end Sys2Proof.Machine

namespace Sys2Proof.Machine

open Sys2Proof

section

variable {s : State}

/-! ### RESET (70_reset_and_hazards.md R700 to R704) -/

theorem State.resetService_fcw (s : State) : s.resetService.fcw =
    s.readWord .program 2 &&& (if s.cfg.variant = .z8001 then 0xF8FC else 0x78FC) := by
  have mask : fcwMask s.cfg.variant = if s.cfg.variant = .z8001 then 0xF8FC else 0x78FC := by
    cases s.cfg.variant <;> rfl
  exact congrArg (s.readWord .program 2 &&& ·) mask

/-- The requests are dropped before the reset vector is read, and an adaptor may request SEGTRAP during the reads. -/
theorem State.resetService_restIs (s : State) :
    RestIs s s.resetService { s.rest with irqReq := noRequests, halt := false } := by
  have dropped : RestIs s ({ s with irqReq := noRequests } : State) { s.rest with irqReq := noRequests } := .of_eq rfl
  have read := (dropped.access rfl (.read .program) (s.wordCells 2)).access rfl (.read .program) (s.wordCells 4)
  unfold State.resetService
  cases s.cfg.variant with
  | z8001 =>
    exact (read.access rfl (.read .program) (s.wordCells 6)).update (fun x => { x with halt := false }) rfl
      (fun _ _ => rfl) fun _ => rfl
  | z8002 => exact read.update (fun x => { x with halt := false }) rfl (fun _ _ => rfl) fun _ => rfl

/-- No register is written, and no byte of memory: nothing is pushed, and no stacks are exchanged. -/
theorem State.resetService_frame (s : State) :
    Frame s s.resetService [] [] 0xFFFF { s.rest with irqReq := noRequests, halt := false } := by
  obtain ⟨mem, fcw, rest⟩ := StoreFrame.of_fcw s.resetService_mem s.resetService_restIs
  have regs : s.resetService.regs = s.regs := by
    unfold State.resetService
    cases s.cfg.variant <;> rfl
  exact ⟨fun n _ => by rw [State.reg, State.reg, regs], mem, fcw, rest⟩

/-- The address in the reset vector: two words on the Z8001 and one on the Z8002 (R704). -/
theorem State.resetService_pc_z8001 (h : s.cfg.variant = .z8001) :
    s.resetService.pc = pcValue .z8001 (segAddr (s.readWord .program 4) (s.readWord .program 6)) := by
  simp [State.resetService, h]

theorem State.resetService_pc_z8002 (h : s.cfg.variant = .z8002) :
    s.resetService.pc = pcValue .z8002 (0#7 ++ s.readWord .program 4) := by
  simp [State.resetService, h]

/-- Settles O53: RESET is the first of the causes, and its service is `State.resetService`. -/
theorem resetAndItsService : Obligations.ResetAndItsService := by
  refine ⟨⟨⟨rfl, rfl, rfl, rfl, rfl, rfl, rfl, rfl, rfl⟩, fun s => ⟨rfl, rfl, rfl, rfl, rfl, rfl, rfl, rfl, rfl⟩⟩,
    fun s hs => ?_⟩
  have serves : s.service = s.resetService :=
    State.service_of_reset (State.topCause_of_first hs fun _ hd => absurd hd List.not_mem_nil)
  rw [serves]
  refine ⟨s.resetService_fcw, ?_, s.resetService_frame⟩
  cases h : s.cfg.variant with
  | z8001 => exact State.resetService_pc_z8001 h
  | z8002 => exact State.resetService_pc_z8002 h

/-! ### A halted machine, and `run` (70_reset_and_hazards.md R712, R720) -/

theorem step_of_halted (h : s.halt = true) (idle : s.topCause = none) : step s = .next s.haltedStep := by
  rw [step, State.stepOnce, State.service_of_none idle, if_pos h]

/-- `run` takes no step where its loop does not go on. -/
theorem State.runLoop_of_stop (h : s.goesOn = false) (fuel : Nat) : State.runLoop fuel s = some (.next s) := by
  cases fuel with
  | zero => rw [State.runLoop, h]; rfl
  | succ fuel => rw [State.runLoop, h]; rfl

theorem State.goesOn_of_halted (h : s.halt = true) (idle : s.topCause = none) : s.goesOn = false := by
  rw [State.goesOn, h, idle, Option.isNone_none, Bool.and_self, Bool.or_true]
  rfl

theorem State.goesOn_of_spent (h : s.icount ≤ 0) : s.goesOn = false := by
  rw [State.goesOn, decide_eq_true h, Bool.true_or]
  rfl

/-- Settles O54: a halted step is `State.haltedStep`, and `run` stops before its first step. -/
theorem haltedMachineWaits : Obligations.HaltedMachineWaits := by
  refine ⟨fun s halted idle => ⟨?_, fun fuel k => ?_⟩, fun s fuel k hk => ?_⟩
  · exact ⟨_, step_of_halted halted (State.topCause_of_none idle), rfl, rfl, rfl, SegtrapIs.start.keep rfl,
      .of_rest rfl rfl rfl rfl⟩
  · have noCause : ({ s with icount := k } : State).topCause = none := State.topCause_of_none idle
    exact State.runLoop_of_stop (State.goesOn_of_halted (s := { s with icount := k }) halted noCause) fuel
  · exact State.runLoop_of_stop (State.goesOn_of_spent hk) fuel

end
end Sys2Proof.Machine

namespace Sys2Proof.Machine

open Sys2Proof

section

variable {s t u e : State} {c : Cause} {v w : Word}

/-! ### IRET at the head of a handler (60_exceptions.md R624, R630; 47_system.md R514)

An entry and the return both write the whole of FCW and move the stack pointer of system mode by the size of the frame.
The return pops what the entry pushed, and the second exchange of the stacks undoes the first. -/

/-- The exchange of the stacks is undone by a write of FCW that brings the mode back (R56, R57). -/
theorem Switched.undo (h : Switched s e v) (hc : e.cfg = s.cfg) (h' : Switched e t w) (hw : fcwSystem w = s.system) :
    (∀ n, t.reg n = s.reg n) ∧ t.nspSeg = s.nspSeg ∧ t.nspOff = s.nspOff := by
  obtain ⟨fcw, stay, swap⟩ := h
  obtain ⟨_, stay', swap'⟩ := h'
  have mode : e.system = fcwSystem v := by rw [State.system, fcw, fcwSystem_mask]
  rw [mode, hw, hc] at swap'
  rw [mode, hw] at stay'
  by_cases hv : fcwSystem v = s.system
  · obtain ⟨regs, off, seg⟩ := stay hv
    obtain ⟨regs', off', seg'⟩ := stay' hv.symm
    exact ⟨fun n => (regs' n).trans (regs n), seg'.trans seg, off'.trans off⟩
  · obtain ⟨sp, off, regs, pair⟩ := swap hv
    obtain ⟨sp', off', regs', pair'⟩ := swap' (Ne.symm hv)
    have segment : t.reg 14 = s.reg 14 ∧ t.nspSeg = s.nspSeg := by
      split at pair
      next both =>
        rw [if_pos both] at pair'
        exact ⟨pair'.1.trans pair.2, pair'.2.trans pair.1⟩
      next one =>
        rw [if_neg one] at pair'
        exact ⟨pair'.1.trans pair.1, pair'.2.trans pair.2⟩
    refine ⟨fun n => ?_, segment.2, off'.trans sp⟩
    by_cases h14 : n = 14
    · exact h14 ▸ segment.1
    · by_cases h15 : n = 15
      · exact h15 ▸ sp'.trans off
      · exact (regs' n h14 h15).trans (regs n h14 h15)

/-- Of FCW before the write, `Switched` speaks of the mode only. -/
theorem Switched.congr_system (h : Switched u t v) (hc : u.cfg = s.cfg) (hm : u.system = s.system)
    (hr : ∀ n, u.reg n = s.reg n) (ho : u.nspOff = s.nspOff) (hg : u.nspSeg = s.nspSeg) : Switched s t v := by
  unfold Switched at h ⊢
  simp only [hc, hm, hr, ho, hg] at h ⊢
  exact h

/-- A write of FCW that keeps the mode keeps the registers and the other mode's stack pointer. -/
theorem Switched.stays (h : Switched s t v) (hm : t.system = s.system) :
    (∀ n, t.reg n = s.reg n) ∧ t.nspOff = s.nspOff ∧ t.nspSeg = s.nspSeg :=
  h.2.1 (by rw [← hm, State.system, h.1, fcwSystem_mask])

/-! #### The stack of the handler -/

/-- `t` has the registers, the variant and the segmented mode of `u`, and so the same stack. -/
structure SameStack (u t : State) : Prop where
  cfg       : t.cfg = u.cfg
  segmented : t.segmented = u.segmented
  regs      : ∀ n, t.reg n = u.reg n
  z8001     : u.cfg.variant = .z8001 → u.segmented = true

theorem SameStack.spReg (h : SameStack u t) : t.spReg = u.spReg := by
  rw [State.spReg, h.segmented, ← State.spReg]

theorem SameStack.pointer (h : SameStack u t) (p : Reg) : t.pointer p = u.pointer p := by
  cases hs : u.segmented with
  | true =>
    rw [State.pointer_of_segmented (h.segmented.trans hs), State.pointer_of_segmented hs, h.regs, h.regs]
  | false =>
    have z8002 : u.cfg.variant = .z8002 := by
      cases hv : u.cfg.variant with
      | z8001 => exact absurd (h.z8001 hv) (by rw [hs]; exact Bool.false_ne_true)
      | z8002 => rfl
    rw [State.pointer_of_nonsegmented (h.segmented.trans hs), State.pointer_of_nonsegmented hs, h.regs,
      State.nonsegSegment_of_z8002 z8002, State.nonsegSegment_of_z8002 (by rw [h.cfg, z8002])]

/-- A pointer moved in both states. -/
theorem SameStack.stepPointer_pointer (h : SameStack u t) (p : Reg) (k : Word) :
    (t.stepPointer p k).pointer p = (u.stepPointer p k).pointer p := by
  rw [State.pointer_stepPointer, State.pointer_stepPointer, h.pointer, State.addrAdd_congr h.cfg]

theorem SameStack.stepPointer_reg (h : SameStack u t) (p : Reg) (k : Word) (n : Reg) :
    (t.stepPointer p k).reg n = (u.stepPointer p k).reg n := by
  have place : t.offsetReg p = u.offsetReg p := by rw [State.offsetReg, h.segmented, ← State.offsetReg]
  rw [State.stepPointer, State.stepPointer, place, State.reg_setReg, State.reg_setReg, h.regs, h.regs]

theorem State.stepPointer_zero_reg (s : State) (p n : Reg) : (s.stepPointer p 0).reg n = s.reg n := by
  rw [State.stepPointer, add_zero, State.reg_setReg]
  split
  next h => rw [h]
  next => rfl

theorem State.entry_cfg (s : State) : s.entry.cfg = s.cfg := s.changeFcw_cfg _

/-- R624: the frame is pushed in system mode. -/
theorem State.entry_system (s : State) : s.entry.system = true := by
  unfold State.system State.entry
  rw [State.changeFcw_fcw, fcwSystem_mask]
  split <;> simp [fcwSystem]

/-- How many bytes the frame of an entry has (R612). -/
def State.frameSize (s : State) : Word := s.entry.pcSize + 2 + 2

theorem State.frameSize_eq (s : State) : s.frameSize = if s.cfg.variant = .z8001 then 8 else 6 := by
  rw [State.frameSize, s.entry_pcSize]
  split <;> rfl

/-- The state in which the frame is pushed, with the stack pointer where the frame ends. -/
def State.belowFrame (s : State) : State := s.entry.stepPointer s.entry.spReg (-s.frameSize)

theorem State.belowFrame_segmented (s : State) : s.belowFrame.segmented = decide (s.cfg.variant = .z8001) :=
  (State.stepPointer_segmented ..).trans s.entry_segmented

theorem State.belowFrame_system (s : State) : s.belowFrame.system = true :=
  (State.stepPointer_system ..).trans s.entry_system

theorem State.belowFrame_spReg (s : State) : s.belowFrame.spReg = s.entry.spReg := State.stepPointer_spReg ..

/-- A handler in system mode starts with the registers that pushing the frame left. -/
theorem State.enter_stays (hs : (s.enter c).system = true) :
    (∀ n, (s.enter c).reg n = s.belowFrame.reg n) ∧ (s.enter c).nspOff = s.entry.nspOff ∧
      (s.enter c).nspSeg = s.entry.nspSeg :=
  (s.enter_switched c).stays (hs.trans s.belowFrame_system.symm)

/-- In system mode, and in segmented mode on the Z8001, it starts with the stack on which the frame was pushed. -/
theorem State.enter_sameStack (hs : (s.enter c).system = true)
    (hseg : s.cfg.variant = .z8001 → (s.enter c).segmented = true) : SameStack s.belowFrame (s.enter c) where
  cfg := (s.enter_cfg c).trans s.entry_cfg.symm
  segmented := by
    rw [s.belowFrame_segmented]
    cases hv : s.cfg.variant with
    | z8001 => exact hseg hv
    | z8002 => exact State.segmented_of_z8002 (by rw [s.enter_cfg, hv])
  regs := (State.enter_stays hs).1
  z8001 hv := s.belowFrame_segmented.trans (decide_eq_true (s.entry_cfg ▸ hv))

/-- What is `k` bytes up from the top is where the entry pushed it. -/
theorem SameStack.frame_pointer (h : SameStack s.belowFrame t) (k : Word) :
    (t.stepPointer t.spReg k).pointer t.spReg =
      (s.entry.stepPointer s.entry.spReg (-(s.frameSize - k))).pointer s.entry.spReg := by
  have moved : -s.frameSize + k = -(s.frameSize - k) := by ring
  rw [h.spReg, s.belowFrame_spReg, h.stepPointer_pointer, State.belowFrame, State.stepPointer_stepPointer, moved]

/-- Once the whole frame is popped the registers are those before it was pushed. -/
theorem SameStack.frame_popped (h : SameStack s.belowFrame t) (n : Reg) :
    (t.stepPointer t.spReg s.frameSize).reg n = s.entry.reg n := by
  rw [h.spReg, s.belowFrame_spReg, h.stepPointer_reg, State.belowFrame, State.stepPointer_stepPointer, neg_add_cancel,
    State.stepPointer_zero_reg]

/-! #### What is popped -/

/-- The FCW that IRET pops, above the tag. -/
def State.poppedFcw (t : State) : Word := t.readWord .stack ((t.stepPointer t.spReg 2).pointer t.spReg)

/-- The address that it pops, above FCW: a long on the Z8001, a word on the Z8002. -/
def State.poppedPc (t : State) : Addr :=
  let a := (t.stepPointer t.spReg 4).pointer t.spReg
  if t.cfg.variant = .z8001 then
    segAddr ((t.readLong .stack a).extractLsb' 16 16) ((t.readLong .stack a).extractLsb' 0 16)
  else 0#7 ++ t.readWord .stack a

theorem iret_installs (hs : t.system = true) : ∃ u, exec .iret t = .next u ∧
    Switched (t.stepPointer t.spReg (if t.cfg.variant = .z8001 then 8 else 6)) u t.poppedFcw ∧
    u.pc = pcValue t.cfg.variant t.poppedPc := by
  obtain ⟨u, run, switched, _, pc⟩ := programStatusLoadsAndReturns.2 t hs
  exact ⟨u, run, switched, pc⟩

/-- FCW is two bytes up from the tag, PC four. -/
theorem State.frameSize_sub_two (s : State) : s.frameSize - 2 = s.entry.pcSize + 2 := by
  unfold State.frameSize
  ring

theorem State.frameSize_sub_four (s : State) : s.frameSize - 4 = s.entry.pcSize := by
  unfold State.frameSize
  ring

section

variable (hg : ∀ g ∈ s.guards, g.access ≠ .read .stack)

include hg

/-- Where the bus adaptor answers no read of the stack, the handler reads there what the frame holds. -/
theorem State.enter_readWord_stack (c : Cause) (a : Addr) :
    (s.enter c).readWord .stack a = (s.framed c).bare.readWord .stack a := by
  have guards : (s.enter c).guards = s.guards := (s.enter_sameEntry c).guards.trans (s.framed_guards c)
  rw [State.readWord_stack_bare (by rwa [guards]), s.enter_readWord]

theorem State.enter_readLong_stack (c : Cause) (a : Addr) :
    (s.enter c).readLong .stack a = (s.framed c).bare.readLong .stack a := by
  have guards : (s.enter c).guards = s.guards := (s.enter_sameEntry c).guards.trans (s.framed_guards c)
  rw [State.readLong_stack_bare (by rwa [guards]), s.enter_readLong]

theorem State.enter_poppedFcw (h : SameStack s.belowFrame (s.enter c)) : (s.enter c).poppedFcw = s.fcw := by
  rw [State.poppedFcw, h.frame_pointer, s.frameSize_sub_two, State.enter_readWord_stack hg]
  exact s.entry.pushFrame_fcw s.pc s.fcw (s.tag c) .stack

/-- The popped address makes the same `pc` as the one pushed: on the Z8002 the segment plays no part. -/
theorem State.enter_poppedPc (h : SameStack s.belowFrame (s.enter c)) :
    pcValue s.cfg.variant (s.enter c).poppedPc = pcValue s.cfg.variant s.pc := by
  rw [State.poppedPc, h.frame_pointer, s.frameSize_sub_four, s.entry_pcSize, s.enter_cfg]
  cases hv : s.cfg.variant with
  | z8001 =>
    have pushed := State.pushFrame_pc_long (s.entry_segmented.trans (decide_eq_true hv)) s.pc s.fcw (s.tag c) .stack
    simp only [if_pos, State.enter_readLong_stack hg, State.framed, pushed, append_high_16, append_low_16,
      segAddr_segWord]
  | z8002 =>
    have other : s.cfg.variant ≠ .z8001 := by rw [hv]; decide
    have pushed := State.pushFrame_pc_word (s.entry_segmented.trans (decide_eq_false other)) s.pc s.fcw (s.tag c) .stack
    simp only [reduceCtorEq, if_false, State.enter_readWord_stack hg, State.framed, pushed, pcValue_z8002_append]

end

/-- Settles O51: IRET pops what the entry pushed, and its write of the old FCW exchanges the stacks back. -/
theorem returnUndoesEntry : Obligations.ReturnUndoesEntry := by
  intro s c inv _ hg hs hseg
  have stack := State.enter_sameStack hs hseg
  obtain ⟨t, run, popped, pc⟩ := iret_installs hs
  rw [s.enter_cfg, ← s.frameSize_eq, State.enter_poppedFcw hg stack] at popped
  rw [s.enter_cfg, State.enter_poppedPc hg stack, inv.pc] at pc
  obtain ⟨_, entryOff, entrySeg⟩ := State.enter_stays hs
  have fromEntry : Switched s.entry t s.fcw :=
    popped.congr_system ((s.enter_cfg c).trans s.entry_cfg.symm)
      (by rw [State.stepPointer_system, hs, s.entry_system]) stack.frame_popped entryOff entrySeg
  have fcw : t.fcw = s.fcw &&& fcwMask s.cfg.variant := s.entry_cfg ▸ fromEntry.1
  obtain ⟨regs, seg, off⟩ := (s.changeFcw_switched _).undo s.entry_cfg fromEntry rfl
  exact ⟨t, run, pc, fcw.trans inv.fcw, regs, seg, off⟩

end
end Sys2Proof.Machine

namespace Sys2Proof.Machine

open Sys2Proof

/-! ### Sums and differences over the integers (41_arithmetic.md R250)

The sum or difference of two signed values leaves the range of their width by less than that range again, so the sign of
its low bits tells whether it fits. Both overflow flags come from that one fact. -/

section

variable {n : Nat} {v : Int} {f : Word}

theorem fits_toInt (x : BitVec n) : Fits n x.toInt := ⟨x.le_toInt, x.toInt_lt⟩

theorem two_pow_eq_double (hn : 0 < n) : (2 : Int) ^ n = 2 * 2 ^ (n - 1) := by
  rw [← Int.pow_succ', Nat.sub_add_cancel hn]

theorem toInt_ofInt_of_fits (hn : 0 < n) (h : Fits n v) : (BitVec.ofInt n v).toInt = v :=
  BitVec.toInt_ofInt_eq_self hn h.1 h.2

theorem msb_iff_neg (x : BitVec n) : x.msb = true ↔ x.toInt < 0 := by rw [BitVec.msb_eq_toInt, decide_eq_true_eq]

/-- The sign of the low `n` bits of `v` is that of `v` exactly if `v` fits. -/
theorem msb_ofInt_iff (hn : 0 < n) (lower : -(2 ^ n) ≤ v) (upper : v < 2 ^ n) :
    (BitVec.ofInt n v).msb = true ↔ (v < 0 ↔ Fits n v) := by
  have low : v % 2 ^ n = if v < 0 then v + 2 ^ n else v := by
    split
    · rw [← Int.add_emod_right, Int.emod_eq_of_lt (by omega) (by omega)]
    · exact Int.emod_eq_of_lt (by omega) upper
  have double := two_pow_eq_double hn
  rw [BitVec.msb_eq_toInt, decide_eq_true_eq, BitVec.toInt_ofInt, Int.bmod_def]
  push_cast
  rw [low, Fits]
  omega

/-! #### Results -/

theorem addC_r (a b : BitVec n) (ci : Bool) : (addC a b ci).r = a + b + BitVec.ofNat n ci.toNat := by
  simp [addC, BitVec.ofNat_add]

theorem addC_r_signed (a b : BitVec n) (ci : Bool) :
    (addC a b ci).r = BitVec.ofInt n (a.toInt + b.toInt + ci.toNat) := by
  simp [addC_r, BitVec.ofInt_add]

theorem subC_r (a b : BitVec n) (ci : Bool) : (subC a b ci).r = a - b - BitVec.ofNat n ci.toNat := by
  simp [subC, Int.sub_eq_add_neg, BitVec.ofInt_add, BitVec.ofInt_neg, BitVec.sub_eq_add_neg]

theorem subC_r_signed (a b : BitVec n) (ci : Bool) :
    (subC a b ci).r = BitVec.ofInt n (a.toInt - b.toInt - ci.toNat) := by
  simp [subC_r, Int.sub_eq_add_neg, BitVec.ofInt_add, BitVec.ofInt_neg, BitVec.sub_eq_add_neg]

theorem addC_r_noCarry (a b : BitVec n) : (addC a b false).r = a + b := (addC_r a b false).trans (BitVec.add_zero _)

theorem subC_r_noBorrow (a b : BitVec n) : (subC a b false).r = a - b := (subC_r a b false).trans (BitVec.sub_zero _)

/-! #### Overflow -/

theorem addC_v_iff (hn : 0 < n) (a b : BitVec n) (ci : Bool) :
    (addC a b ci).v = true ↔ ¬ Fits n (a.toInt + b.toInt + ci.toNat) := by
  have overflow : (addC a b ci).v = (a.msb == b.msb && (addC a b ci).r.msb != a.msb) := rfl
  have double := two_pow_eq_double hn
  obtain ⟨la, ua⟩ := fits_toInt a
  obtain ⟨lb, ub⟩ := fits_toInt b
  have carry := ci.toNat_le
  have sign := msb_ofInt_iff (v := a.toInt + b.toInt + ci.toNat) hn (by omega) (by omega)
  rw [overflow, addC_r_signed, Bool.and_eq_true, beq_iff_eq, bne_iff_ne, ne_eq, Bool.eq_iff_iff (a := a.msb),
    Bool.eq_iff_iff (b := a.msb), sign, msb_iff_neg, msb_iff_neg, Fits]
  omega

theorem subC_v_iff (hn : 0 < n) (a b : BitVec n) (ci : Bool) :
    (subC a b ci).v = true ↔ ¬ Fits n (a.toInt - b.toInt - ci.toNat) := by
  have overflow : (subC a b ci).v = (a.msb != b.msb && (subC a b ci).r.msb != a.msb) := rfl
  have double := two_pow_eq_double hn
  obtain ⟨la, ua⟩ := fits_toInt a
  obtain ⟨lb, ub⟩ := fits_toInt b
  have borrow := ci.toNat_le
  have sign := msb_ofInt_iff (v := a.toInt - b.toInt - ci.toNat) hn (by omega) (by omega)
  rw [overflow, subC_r_signed, Bool.and_eq_true, bne_iff_ne, bne_iff_ne, ne_eq, ne_eq, Bool.eq_iff_iff (a := a.msb),
    Bool.eq_iff_iff (b := a.msb), sign, msb_iff_neg, msb_iff_neg, Fits]
  omega

/-! #### Flags -/

theorem addFlags_addC (hn : 0 < n) (a b : BitVec n) (ci : Bool) (f : Word) :
    AddFlags a b ci ((addC a b ci).flags.apply f) := by
  rw [AddFlags, ← addC_r]
  refine ⟨⟨flagZ_apply _ f, flagS_apply _ f⟩, ?_, ?_⟩
  · rw [flagC_apply]
    exact decide_eq_true_iff
  · rw [flagPV_apply]
    exact addC_v_iff hn a b ci

theorem subC_c_iff (a b : BitVec n) (ci : Bool) : (subC a b ci).c = true ↔ a.toNat < b.toNat + ci.toNat := by
  have borrow : (subC a b ci).c = decide ((a.toNat : Int) - b.toNat - ci.toNat < 0) := rfl
  rw [borrow, decide_eq_true_eq]
  omega

/-- `subFlags_subC` with a borrow. -/
theorem subFlags_subC_borrow (hn : 0 < n) (a b : BitVec n) (ci : Bool) (f : Word) :
    SubFlags a b ci ((subC a b ci).flags.apply f) := by
  rw [SubFlags, ← subC_r]
  refine ⟨⟨flagZ_apply _ f, flagS_apply _ f⟩, ?_, ?_⟩
  · rw [flagC_apply]
    exact subC_c_iff a b ci
  · rw [flagPV_apply]
    exact subC_v_iff hn a b ci

theorem Sum.flags_mask (t : Sum n) : t.flags.mask &&& ~~~flagsCZSP = 0 := mask_czsp _ _ _ _

/-- The flags of a byte are those of any width, on top of H and DA. -/
theorem Sum.byteFlags_apply (t : Sum n) (da : Bool) (f : Word) :
    (t.byteFlags da).apply f = t.flags.apply (({ h := some t.h, da := some da } : FlagUpdate).apply f) := rfl

theorem Sum.byteFlags_mask (t : Sum n) (da : Bool) : (t.byteFlags da).mask &&& ~~~flagsAll = 0 := by
  have all : ∀ c z s pv da h : Bool,
      FlagUpdate.mask ⟨some c, some z, some s, some pv, some da, some h⟩ &&& ~~~flagsAll = 0 := by decide
  exact all ..

theorem halfAdd_addC (a b : Byte) (ci : Bool) (f : Word) :
    HalfAdd a b ci (((addC a b ci).byteFlags false).apply f) := by
  refine ⟨?_, flagDA_apply _ f⟩
  rw [flagH_apply]
  exact decide_eq_true_iff

theorem halfSub_subC (a b : Byte) (ci : Bool) (f : Word) :
    HalfSub a b ci (((subC a b ci).byteFlags true).apply f) := by
  refine ⟨?_, flagDA_apply _ f⟩
  rw [flagH_apply]
  exact decide_eq_true_iff

/-! ### Additions and subtractions (R251 to R260) -/

section

variable {s : State} {d : Reg} {o : Out} {k : Nat} {ci : Bool} {w : Width n}
  {F : State → State → Place → Word → Rest → Prop}

theorem Width.Framed.adds (hn : 0 < n) (hw : w.Framed F) (hs : w.Steady) {src : Source (BitVec n)}
    {r : BitVec n} (hr : (addC (w.getReg s d) (src.value w s) ci).r = r)
    (hx : o = .next (binary w d src (addOp ci) (s.fetchExt k))) :
    ∃ t, o = .next t ∧ (Place.reg d).get w t.bare = r ∧
      AddFlags (w.getReg s d) (src.value w s) ci t.fcw ∧ F s t (.reg d) flagsCZSP s.rest := by
  obtain ⟨t, ht, result, fcw, frame⟩ := hw.combines hs hx (Sum.flags_mask _)
  exact ⟨t, ht, result.trans hr, fcw ▸ addFlags_addC hn .., frame⟩

theorem Width.Framed.subtracts (hn : 0 < n) (hw : w.Framed F) (hs : w.Steady) {src : Source (BitVec n)}
    {r : BitVec n} (hr : (subC (w.getReg s d) (src.value w s) ci).r = r)
    (hx : o = .next (binary w d src (subOp ci) (s.fetchExt k))) :
    ∃ t, o = .next t ∧ (Place.reg d).get w t.bare = r ∧
      SubFlags (w.getReg s d) (src.value w s) ci t.fcw ∧ F s t (.reg d) flagsCZSP s.rest := by
  obtain ⟨t, ht, result, fcw, frame⟩ := hw.combines hs hx (Sum.flags_mask _)
  exact ⟨t, ht, result.trans hr, fcw ▸ subFlags_subC_borrow hn .., frame⟩

variable {src : Source Byte}

theorem byte_adds {r : Byte} (hr : (addC (s.byteReg d) (src.value byteW s) ci).r = r)
    (hx : o = .next (binary byteW d src (addOpB ci) (s.fetchExt k))) :
    ∃ t, o = .next t ∧ t.byteReg d = r ∧
      AddFlags (s.byteReg d) (src.value byteW s) ci t.fcw ∧ HalfAdd (s.byteReg d) (src.value byteW s) ci t.fcw ∧
      ByteFrame s t (.reg d) flagsAll s.rest := by
  obtain ⟨t, ht, result, fcw, frame⟩ := byteW_framed.combines byteW_steady hx (Sum.byteFlags_mask _ false)
  exact ⟨t, ht, result.trans hr, fcw.trans (Sum.byteFlags_apply ..) ▸ addFlags_addC (by decide) ..,
    fcw ▸ halfAdd_addC .., frame⟩

theorem byte_subtracts {r : Byte} (hr : (subC (s.byteReg d) (src.value byteW s) ci).r = r)
    (hx : o = .next (binary byteW d src (subOpB ci) (s.fetchExt k))) :
    ∃ t, o = .next t ∧ t.byteReg d = r ∧
      SubFlags (s.byteReg d) (src.value byteW s) ci t.fcw ∧ HalfSub (s.byteReg d) (src.value byteW s) ci t.fcw ∧
      ByteFrame s t (.reg d) flagsAll s.rest := by
  obtain ⟨t, ht, result, fcw, frame⟩ := byteW_framed.combines byteW_steady hx (Sum.byteFlags_mask _ true)
  exact ⟨t, ht, result.trans hr, fcw.trans (Sum.byteFlags_apply ..) ▸ subFlags_subC_borrow (by decide) ..,
    fcw ▸ halfSub_subC .., frame⟩

end

/-- Settles O10: a register plus a source plus the carry, which only ADC and ADCB take from FCW. -/
theorem additionsGiveSumAndFlags : Obligations.AdditionsGiveSumAndFlags := by
  intro s d
  exact ⟨fun src h => wordW_framed.adds (by decide) wordW_steady (addC_r_noCarry ..) (need_of .oddPair _ h),
    fun src h => byte_adds (addC_r_noCarry ..) (need_of .oddPair _ h),
    fun src h hd => longW_framed.adds (by decide) longW_steady (addC_r_noCarry ..)
      (need_of .oddPair _ (by rw [h, hd]; rfl)),
    fun r => wordW_framed.adds (k := 0) (src := .reg r) (by decide) wordW_steady (addC_r ..) rfl,
    fun r => byte_adds (k := 0) (src := .reg r) (addC_r ..) rfl⟩

/-- Settles O11: a register minus a source minus the borrow, which only SBC and SBCB take from FCW. -/
theorem subtractionsGiveDifferenceAndFlags : Obligations.SubtractionsGiveDifferenceAndFlags := by
  intro s d
  exact ⟨fun src h => wordW_framed.subtracts (by decide) wordW_steady (subC_r_noBorrow ..) (need_of .oddPair _ h),
    fun src h => byte_subtracts (subC_r_noBorrow ..) (need_of .oddPair _ h),
    fun src h hd => longW_framed.subtracts (by decide) longW_steady (subC_r_noBorrow ..)
      (need_of .oddPair _ (by rw [h, hd]; rfl)),
    fun r => wordW_framed.subtracts (k := 0) (src := .reg r) (by decide) wordW_steady (subC_r ..) rfl,
    fun r => byte_subtracts (k := 0) (src := .reg r) (subC_r ..) rfl⟩

/-! ### Comparisons (R261 to R265) -/

section

variable {s : State} {d : Reg} {o : Out} {k : Nat} {w : Width n} {F : State → State → Place → Word → Rest → Prop}

theorem Width.Framed.comparesSource (hn : 0 < n) (hw : w.Framed F) (hs : w.Steady) {src : Source (BitVec n)}
    (hx : o = .next (compareWith w d src compareOp (s.fetchExt k))) :
    ∃ t, o = .next t ∧ SubFlags (w.getReg s d) (src.value w s) false t.fcw ∧ Frame s t [] [] flagsCZSP s.rest := by
  have hu := hw.touchSource (.fetchExt s k) src
  rw [compareWith, hs.getReg, Source.value_fetchExt s hs] at hx
  refine ⟨_, hx, ?_, hu.frame.setFlags _ (Sum.flags_mask _)⟩
  exact subFlags_subC_borrow hn ..

theorem Width.Framed.comparesMemory (hn : 0 < n) (hw : w.Framed F) (hs : w.Steady) {dst : RegMem} {v : BitVec n}
    (hx : o = .next (inspect w dst (compareOp · v) (s.fetchExt k))) :
    ∃ t, o = .next t ∧ SubFlags ((dst.place s).get w s) v false t.fcw ∧ Frame s t [] [] flagsCZSP s.rest := by
  obtain ⟨t, ht, fcw, frame⟩ := hw.inspects hs hx (Sum.flags_mask _)
  exact ⟨t, ht, fcw ▸ subFlags_subC_borrow hn .., frame⟩

end

/-- Settles O12: the flags of a difference, of a register and a source or of memory and an immediate. -/
theorem comparisonsOnlySetFlags : Obligations.ComparisonsOnlySetFlags := by
  intro s
  exact ⟨fun d src h => wordW_framed.comparesSource (by decide) wordW_steady (need_of .oddPair _ h),
    fun d src h => byteW_framed.comparesSource (by decide) byteW_steady (need_of .oddPair _ h),
    fun d src h hd => longW_framed.comparesSource (by decide) longW_steady (need_of .oddPair _ (by rw [h, hd]; rfl)),
    fun dst v h => wordW_framed.comparesMemory (dst := .mem dst) (by decide) wordW_steady (need_of .oddPair _ h),
    fun dst v h => byteW_framed.comparesMemory (dst := .mem dst) (by decide) byteW_steady (need_of .oddPair _ h)⟩

/-! ### Counting and negation (R266 to R271) -/

theorem Sum.countFlags_mask (t : Sum n) : t.countFlags.mask &&& ~~~flagsZSP = 0 := mask_zsp _ _ _

/-- R268 to R271: the field of a count names 1 to 16, which a byte holds. -/
theorem count_toInt (hn : 8 ≤ n) (k : BitVec 4) : (BitVec.ofNat n (k.toNat + 1)).toInt = k.toNat + 1 := by
  have wide : (2 : Int) ^ 7 ≤ 2 ^ (n - 1) := pow_le_pow_right₀ (by decide) (by omega)
  have small := k.isLt
  rw [← BitVec.ofInt_natCast, toInt_ofInt_of_fits (by omega)]
  · exact Int.natCast_succ k.toNat
  · constructor <;> push_cast <;> omega

theorem incOp_v_iff (hn : 8 ≤ n) (k : BitVec 4) (x : BitVec n) :
    (addC x (BitVec.ofNat n (k.toNat + 1)) false).v = true ↔ ¬ Fits n (x.toInt + (k.toNat + 1)) := by
  rw [addC_v_iff (by omega), count_toInt hn]
  exact iff_of_eq (congrArg (¬ Fits n ·) (Int.add_zero _))

theorem decOp_v_iff (hn : 8 ≤ n) (k : BitVec 4) (x : BitVec n) :
    (subC x (BitVec.ofNat n (k.toNat + 1)) false).v = true ↔ ¬ Fits n (x.toInt - (k.toNat + 1)) := by
  rw [subC_v_iff (by omega), count_toInt hn]
  exact iff_of_eq (congrArg (¬ Fits n ·) (Int.sub_zero _))

/-- R266, R267: the one value whose negation does not fit. -/
theorem eq_intMin_iff (hn : 0 < n) (x : BitVec n) : x = BitVec.intMin n ↔ ¬ Fits n (-x.toInt) := by
  obtain ⟨lower, upper⟩ := fits_toInt x
  rw [← BitVec.toInt_inj, BitVec.toInt_intMin_of_pos hn, Fits]
  omega

theorem negate_mask (x : BitVec n) : (negate x).2.mask &&& ~~~flagsCZSP = 0 := mask_czsp _ _ _ _

section

variable {s : State} {dst : RegMem} {o : Out} {k : Nat} {w : Width n} {F : State → State → Place → Word → Rest → Prop}

/-- An operand replaced by a sum `t` with itself, whose C is dropped. -/
theorem Width.Framed.counts (hw : w.Framed F) (hs : w.Steady) {op : BitVec n → BitVec n × FlagUpdate} {t : Sum n}
    (hop : op ((dst.place s).get w s) = (t.r, t.countFlags)) {r : BitVec n} (hr : t.r = r)
    (hv : t.v = true ↔ ¬ Fits n v) (hx : o = .next (modify w dst op (s.fetchExt k))) :
    ∃ u, o = .next u ∧ (dst.place s).get w u.bare = r ∧ ZeroSign r u.fcw ∧ (flagPV u.fcw = true ↔ ¬ Fits n v) ∧
      F s u (dst.place s) flagsZSP s.rest := by
  obtain ⟨u, hu, result, fcw, frame⟩ := hw.modifies hs hx (flags := flagsZSP) (by rw [hop]; exact t.countFlags_mask)
  rw [hop] at result fcw
  subst hr
  refine ⟨u, hu, result, ⟨?_, ?_⟩, ?_, frame⟩
  · rw [fcw]
    exact flagZ_apply _ _
  · rw [fcw]
    exact flagS_apply _ _
  · rwa [fcw, flagPV_apply]

theorem Width.Framed.negates (hn : 0 < n) (hw : w.Framed F) (hs : w.Steady)
    (hx : o = .next (modify w dst negate (s.fetchExt k))) :
    ∃ t, o = .next t ∧
      (dst.place s).get w t.bare = -((dst.place s).get w s) ∧ ZeroSign (-((dst.place s).get w s)) t.fcw ∧
      (flagC t.fcw = true ↔ (dst.place s).get w s ≠ 0) ∧
      (flagPV t.fcw = true ↔ ¬ Fits n (-((dst.place s).get w s).toInt)) ∧
      F s t (dst.place s) flagsCZSP s.rest := by
  obtain ⟨t, ht, result, fcw, frame⟩ := hw.modifies hs hx (negate_mask _)
  have value : (negate ((dst.place s).get w s)).1 = -((dst.place s).get w s) := BitVec.zero_sub _
  rw [← value]
  refine ⟨t, ht, result, ⟨fcw ▸ flagZ_apply _ _, fcw ▸ flagS_apply _ _⟩, ?_, ?_, frame⟩
  · rw [fcw, flagC_apply]
    exact bne_iff_ne
  · rw [fcw, flagPV_apply, ← eq_intMin_iff hn]
    exact beq_iff_eq

end

/-- Settles O14: each of the six replaces one operand by a sum with it or by its negation. -/
theorem countingAndNegationFlags : Obligations.CountingAndNegationFlags := by
  refine ⟨fun s dst k h => ?_, fun s dst h => ?_⟩
  · have legal : ∀ {x : Out}, need (dst.pairs s.segmented) .oddPair x = x := need_of .oddPair _ h
    exact ⟨wordW_framed.counts wordW_steady rfl (addC_r_noCarry ..) (incOp_v_iff (by decide) k _) legal,
      wordW_framed.counts wordW_steady rfl (subC_r_noBorrow ..) (decOp_v_iff (by decide) k _) legal,
      byteW_framed.counts byteW_steady rfl (addC_r_noCarry ..) (incOp_v_iff (by decide) k _) legal,
      byteW_framed.counts byteW_steady rfl (subC_r_noBorrow ..) (decOp_v_iff (by decide) k _) legal⟩
  · exact ⟨wordW_framed.negates (by decide) wordW_steady (need_of .oddPair _ h),
      byteW_framed.negates (by decide) byteW_steady (need_of .oddPair _ h)⟩

end
end Sys2Proof.Machine

namespace Sys2Proof.Machine

open Sys2Proof

/-! ### Destinations of two halves (10_state.md R35, R36)

MULT, DIV and their long forms write a pair or a quad whose halves are operands of the width of their source. What such
a write leaves is said once for both. -/

section

variable {s t u : State} {n k : Nat} {d : Reg} {flags : Word}

/-- A destination whose low half is the operand `low` registers on, with how it is written and the words it is. -/
structure Wide (n : Nat) where
  half : Width n
  low  : Reg
  set  : State → Reg → BitVec (n + n) → State
  regs : Reg → List Reg

/-- Its value, high half first. -/
def Wide.get (x : Wide n) (s : State) (d : Reg) : BitVec (n + n) := x.half.getReg s d ++ x.half.getReg s (d + x.low)

def pairW : Wide 16 := ⟨wordW, 1, State.setLongReg, fun d => [d, d + 1]⟩

def quadW : Wide 32 := ⟨longW, 2, State.setQuadReg, fun d => [d, d + 1, d + 2, d + 3]⟩

/-- A source value read, then `v` and the flags `f` written. -/
def Wide.written (x : Wide n) (d : Reg) (src : Source (BitVec n)) (v : BitVec (n + n)) (f : FlagUpdate) (s : State) :
    State := (x.set (src.touch x.half s) d v).setFlags f

/-- A destination that holds what is written to it, and whose write leaves other registers, FCW and `pc` alone. -/
structure Wide.Lawful (x : Wide n) : Prop where
  touch   : ∀ {s u : State}, Undisturbed s u → ∀ src : Source (BitVec n), Undisturbed s (src.touch x.half u)
  touchPc : ∀ (u : State) (src : Source (BitVec n)), (src.touch x.half u).pc = u.pc
  congr   : ∀ {s t : State}, t.regs = s.regs → ∀ r, x.half.getReg t r = x.half.getReg s r
  get_set : ∀ (u : State) (d : Reg) (v : BitVec (n + n)), x.get (x.set u d v) d = v
  frame   : ∀ {s u : State}, Undisturbed s u → ∀ d v, Frame s (x.set u d v) (x.regs d) [] 0 s.rest
  setFcw  : ∀ (u : State) (d : Reg) (v : BitVec (n + n)), (x.set u d v).fcw = u.fcw
  setPc   : ∀ (u : State) (d : Reg) (v : BitVec (n + n)), (x.set u d v).pc = u.pc

theorem State.reg_congr (h : t.regs = s.regs) (r : Reg) : t.reg r = s.reg r := by rw [State.reg, State.reg, h]

theorem State.longReg_congr (h : t.regs = s.regs) (r : Reg) : t.longReg r = s.longReg r := by
  rw [State.longReg, State.longReg, State.reg_congr h, State.reg_congr h]

theorem pairW_lawful : pairW.Lawful where
  touch h src := wordW_framed.touchSource h src
  touchPc _ src := by cases src <;> rfl
  congr := State.reg_congr
  get_set u d v := u.longReg_setLongReg d v
  frame h d v := h.frame.setLongReg d v (by simp [pairW]) (by simp [pairW])
  setFcw _ _ _ := rfl
  setPc _ _ _ := rfl

theorem quadW_lawful : quadW.Lawful where
  touch h src := longW_framed.touchSource h src
  touchPc _ src := by cases src <;> rfl
  congr := State.longReg_congr
  get_set u d v := u.quadReg_setQuadReg d v
  frame h d v := by
    have last : d + 2 + 1 = d + 3 := add_assoc ..
    exact h.frame.setQuadReg d v (by simp [quadW]) (by simp [quadW]) (by simp [quadW]) (by rw [last]; simp [quadW])
  setFcw _ _ _ := rfl
  setPc _ _ _ := rfl

section

variable {x : Wide n} {src : Source (BitVec n)} {v : BitVec (n + n)} {f : FlagUpdate}

theorem Wide.Lawful.get_congr (hx : x.Lawful) (h : t.regs = s.regs) (d : Reg) : x.get t d = x.get s d := by
  rw [Wide.get, Wide.get, hx.congr h, hx.congr h]

theorem Wide.halves_of_get {y z : BitVec n} (h : x.get s d = y ++ z) :
    x.half.getReg s d = y ∧ x.half.getReg s (d + x.low) = z := by
  have high := congrArg (BitVec.extractLsb' n n) h
  have low := congrArg (BitVec.extractLsb' 0 n) h
  rw [Wide.get, BitVec.extractLsb'_append_eq_left, BitVec.extractLsb'_append_eq_left] at high
  rw [Wide.get, BitVec.extractLsb'_append_eq_right, BitVec.extractLsb'_append_eq_right] at low
  exact ⟨high, low⟩

theorem Wide.Lawful.get_written (hx : x.Lawful) (u : State) : x.get (x.written d src v f u) d = v :=
  (hx.get_congr (State.setFlags_regs (x.set (src.touch x.half u) d v) f) d).trans (hx.get_set _ d v)

theorem Wide.Lawful.written_fcw (hx : x.Lawful) (hu : Undisturbed s u) :
    (x.written d src v f u).fcw = f.apply s.fcw := by
  rw [Wide.written, State.setFlags_fcw, hx.setFcw, (hx.touch hu src).fcw_eq]

theorem Wide.Lawful.written_pc (hx : x.Lawful) (u : State) : (x.written d src v f u).pc = u.pc := by
  rw [Wide.written, State.setFlags_pc, hx.setPc, hx.touchPc]

theorem Wide.Lawful.written_frame (hx : x.Lawful) (hu : Undisturbed s u) (hf : f.mask &&& ~~~flags = 0) :
    Frame s (x.written d src v f u) (x.regs d) [] flags s.rest :=
  (hx.frame (hx.touch hu src) d v).anyFlags.setFlags f hf

end

/-! ### Multiplication (R272, R273) -/

theorem exec_mult {src : Source Word} (h : src.pairs s.segmented = true) (hd : evenReg d = true) :
    exec (.mult d src) s = .next (pairW.written d src (multiply 32 (s.reg (d + 1)) (src.value wordW s)).1
      (multiply 32 (s.reg (d + 1)) (src.value wordW s)).2 (s.fetchExt (src.extWords 1))) :=
  need_finish (by rw [h, hd]; rfl) (by rw [State.fetchExt_reg, Source.value_fetchExt s wordW_steady]; rfl)

theorem exec_multl {src : Source Long} (h : src.pairsL s.segmented = true) (hd : quadReg d = true) :
    exec (.multl d src) s = .next (quadW.written d src (multiply 64 (s.longReg (d + 2)) (src.value longW s)).1
      (multiply 64 (s.longReg (d + 2)) (src.value longW s)).2 (s.fetchExt (src.extWords 2))) :=
  (need_of .badQuad _ hd).trans
    (need_finish h (by rw [State.fetchExt_longReg, Source.value_fetchExt s longW_steady]; rfl))

theorem multiply_toInt (hn : 0 < n) (a b : BitVec n) : (multiply (n + n) a b).1.toInt = a.toInt * b.toInt := by
  have bound : (2 : Int) ^ (n * 2 - 2) < 2 ^ (n + n - 1) := Int.pow_lt_pow_of_lt (by decide) (by omega)
  have upper := BitVec.toInt_mul_toInt_le (x := a) (y := b)
  have lower := BitVec.le_toInt_mul_toInt (x := a) (y := b)
  exact toInt_ofInt_of_fits (by omega) ⟨by omega, by omega⟩

theorem multiply_c (m : Nat) (a b : BitVec n) (f : Word) :
    flagC ((multiply m a b).2.apply f) = true ↔ ¬ Fits n (a.toInt * b.toInt) := by
  rw [flagC_apply, multiply, Option.getD_some, decide_eq_true_eq, Fits]
  omega

theorem Wide.Lawful.multiplies {x : Wide n} (hx : x.Lawful) (hn : 0 < n) {src : Source (BitVec n)} {a b : BitVec n}
    {o : Out} (ho : o = .next (x.written d src (multiply (n + n) a b).1 (multiply (n + n) a b).2 (s.fetchExt k))) :
    ∃ t, o = .next t ∧ (x.get t d).toInt = a.toInt * b.toInt ∧
      (flagC t.fcw = true ↔ ¬ Fits n (a.toInt * b.toInt)) ∧ (flagZ t.fcw = true ↔ a.toInt * b.toInt = 0) ∧
      (flagS t.fcw = true ↔ a.toInt * b.toInt < 0) ∧ flagPV t.fcw = false ∧
      Frame s t (x.regs d) [] flagsCZSP s.rest := by
  have hu := Undisturbed.fetchExt s k
  refine ⟨_, ho, ?_, ?_⟩
  · rw [hx.get_written]
    exact multiply_toInt hn a b
  · rw [hx.written_fcw hu]
    refine ⟨multiply_c _ a b _, ?_, ?_, flagPV_apply _ _, hx.written_frame hu (mask_czsp _ _ _ _)⟩
    · rw [flagZ_apply]
      exact decide_eq_true_iff
    · rw [flagS_apply]
      exact decide_eq_true_iff

/-- Settles O15: both write the product of the low half of the destination and the source. -/
theorem multiplicationIsExact : Obligations.MultiplicationIsExact := by
  intro s d
  exact ⟨fun src h hd => pairW_lawful.multiplies (by decide) (exec_mult h hd),
    fun src h hd => quadW_lawful.multiplies (by decide) (exec_multl h hd)⟩

/-! ### Division (R280 to R283) -/

/-- R282: `q` and `r` are the quotient and the remainder of `a` by `b`, truncated towards 0. -/
def Divides (a b q r : Int) : Prop := a = b * q + r ∧ r.natAbs < b.natAbs ∧ (r ≠ 0 → (r < 0 ↔ a < 0))

theorem divides_tdiv (a : Int) {b : Int} (hb : b ≠ 0) : Divides a b (a.tdiv b) (a.tmod b) := by
  refine ⟨(Int.mul_tdiv_add_tmod a b).symm, ?_, fun hr => ?_⟩
  · rw [Int.natAbs_tmod]
    exact Nat.mod_lt _ (Int.natAbs_pos.2 hb)
  · have sign := Int.sign_tmod a b
    rw [if_neg fun dvd => hr (Int.tmod_eq_zero_of_dvd dvd)] at sign
    rw [← Int.sign_eq_neg_one_iff_neg, sign, Int.sign_eq_neg_one_iff_neg]

section

variable {m : Nat} {a : BitVec m} {b : BitVec n}

/-- R282. -/
theorem division_of_fits (hb : b.toInt ≠ 0) (hq : Fits n (a.toInt.tdiv b.toInt)) (free : Draw) : division a b free =
    ⟨BitVec.ofInt n (a.toInt.tmod b.toInt), BitVec.ofInt n (a.toInt.tdiv b.toInt),
      quotientFlags (a.toInt.tdiv b.toInt), false⟩ := by
  have quotient : divide a b = some (a.toInt.tdiv b.toInt, a.toInt.tmod b.toInt) := (if_neg hb).trans (if_pos hq)
  rw [division, quotient]

/-- R283. -/
theorem division_of_bad (h : b.toInt = 0 ∨ ¬ Fits n (a.toInt.tdiv b.toInt)) (free : Draw) : division a b free =
    ⟨free.value.extractLsb' n n, free.value.extractLsb' 0 n,
      { c := some free.c, z := some free.z, s := some free.s, pv := some true }, true⟩ := by
  have bad : divide a b = none := by
    by_cases hb : b.toInt = 0
    · exact if_pos hb
    · exact (if_neg hb).trans (if_neg (h.resolve_left hb))
  rw [division, bad]

theorem fits_tmod (hb : b.toInt ≠ 0) : Fits n (a.toInt.tmod b.toInt) := by
  obtain ⟨-, small, -⟩ := divides_tdiv a.toInt hb
  obtain ⟨lower, upper⟩ := fits_toInt b
  constructor <;> omega

end

/-! #### What a division leaves -/

theorem State.divisionTrap_same (s : State) (bad : Bool) :
    (s.divisionTrap bad).regs = s.regs ∧ (s.divisionTrap bad).fcw = s.fcw ∧ (s.divisionTrap bad).pc = s.pc := by
  unfold State.divisionTrap
  split <;> exact ⟨rfl, rfl, rfl⟩

/-- The other fields after a division of `s`: a draw is taken, and a bad one requests TRAP under `DIV_ZERO_TRAPS`. -/
def State.restDivided (s : State) (bad : Bool) : Rest :=
  if bad && s.cfg.divZeroTraps then { s.restDrawn with irqReq := s.irqReq.raise .trap } else s.restDrawn

theorem Frame.divisionTrap {regs : List Reg} {stored : List Nat} (h : Frame s t regs stored flags s.restDrawn)
    (bad : Bool) : Frame s (t.divisionTrap bad) regs stored flags (s.restDivided bad) := by
  have cfg : t.cfg = s.cfg := congrArg Rest.cfg h.rest.1
  rw [State.divisionTrap, State.restDivided, cfg]
  split
  · exact h.raise .trap (by decide)
  · exact h

/-- DIV and DIVL after a division with the result `q`. -/
def Wide.divided (x : Wide n) (d : Reg) (src : Source (BitVec n)) (q : Division n) (s : State) : State :=
  (x.written d src (q.rem ++ q.quot) q.flags s).drawn.divisionTrap q.bad

theorem exec_div {src : Source Word} (h : src.pairs s.segmented = true) (hd : evenReg d = true) :
    exec (.div d src) s = .next (pairW.divided d src (division (s.longReg d) (src.value wordW s) s.draw)
      (s.fetchExt (src.extWords 1))) :=
  need_finish (by rw [h, hd]; rfl)
    (by rw [State.fetchExt_longReg, State.fetchExt_draw, Source.value_fetchExt s wordW_steady]; rfl)

theorem exec_divl {src : Source Long} (h : src.pairsL s.segmented = true) (hd : quadReg d = true) :
    exec (.divl d src) s = .next (quadW.divided d src (division (s.quadReg d) (src.value longW s) s.draw)
      (s.fetchExt (src.extWords 2))) :=
  (need_of .badQuad _ hd).trans (need_finish h
    (by rw [State.fetchExt_quadReg, State.fetchExt_draw, Source.value_fetchExt s longW_steady]; rfl))

section

variable {x : Wide n} {src : Source (BitVec n)} {q : Division n} {a : BitVec (n + n)} {b : BitVec n} {free : Draw}
  {o : Out}

theorem Wide.divided_regs (u : State) :
    (x.divided d src q u).regs = (x.written d src (q.rem ++ q.quot) q.flags u).regs :=
  (State.divisionTrap_same _ _).1

theorem Wide.Lawful.divided_halves (hx : x.Lawful) (u : State) :
    x.half.getReg (x.divided d src q u) d = q.rem ∧ x.half.getReg (x.divided d src q u) (d + x.low) = q.quot :=
  Wide.halves_of_get ((hx.get_congr (Wide.divided_regs u) d).trans (hx.get_written u))

theorem Wide.Lawful.divided_fcw (hx : x.Lawful) (hu : Undisturbed s u) :
    (x.divided d src q u).fcw = q.flags.apply s.fcw :=
  (State.divisionTrap_same _ _).2.1.trans (hx.written_fcw hu)

theorem Wide.Lawful.divided_pc (hx : x.Lawful) (u : State) : (x.divided d src q u).pc = u.pc :=
  (State.divisionTrap_same _ _).2.2.trans (hx.written_pc (f := q.flags) u)

theorem Wide.Lawful.divided_frame (hx : x.Lawful) (hu : Undisturbed s u) (hq : q.flags.mask &&& ~~~flags = 0) :
    Frame s (x.divided d src q u) (x.regs d) [] flags (s.restDivided q.bad) :=
  (hx.written_frame hu hq).drawn.divisionTrap q.bad

/-- R282: the divisor is not 0 and the quotient fits. -/
theorem Wide.Lawful.divides (hx : x.Lawful) (hn : 0 < n) (hb : b.toInt ≠ 0) (hq : Fits n (a.toInt.tdiv b.toInt))
    (ho : o = .next (x.divided d src (division a b free) (s.fetchExt k))) :
    ∃ t, o = .next t ∧
      Divides a.toInt b.toInt (x.half.getReg t (d + x.low)).toInt (x.half.getReg t d).toInt ∧
      (flagC t.fcw = false ∧ (flagZ t.fcw = true ↔ (x.half.getReg t (d + x.low)).toInt = 0) ∧
        (flagS t.fcw = true ↔ (x.half.getReg t (d + x.low)).toInt < 0) ∧ flagPV t.fcw = false) ∧
      Frame s t (x.regs d) [] flagsCZSP s.restDrawn := by
  have hu := Undisturbed.fetchExt s k
  rw [division_of_fits hb hq] at ho
  refine ⟨_, ho, ?_, ?_, hx.divided_frame hu (mask_czsp _ _ _ _)⟩
  · rw [(hx.divided_halves _).1, (hx.divided_halves _).2, toInt_ofInt_of_fits hn hq,
      toInt_ofInt_of_fits hn (fits_tmod hb)]
    exact divides_tdiv _ hb
  · rw [(hx.divided_halves _).2, toInt_ofInt_of_fits hn hq, hx.divided_fcw hu]
    refine ⟨flagC_apply _ _, ?_, ?_, flagPV_apply _ _⟩
    · rw [flagZ_apply]
      exact decide_eq_true_iff
    · rw [flagS_apply]
      exact decide_eq_true_iff

/-- R283. -/
theorem Wide.Lawful.divides_badly (hx : x.Lawful) (h : b.toInt = 0 ∨ ¬ Fits n (a.toInt.tdiv b.toInt))
    (ho : o = .next (x.divided d src (division a b free) (s.fetchExt k))) :
    ∃ t, o = .next t ∧ flagPV t.fcw = true ∧ t.pc = s.pcAfter k ∧
      Frame s t (x.regs d) [] flagsCZSP (s.restDivided true) := by
  have hu := Undisturbed.fetchExt s k
  rw [division_of_bad h] at ho
  refine ⟨_, ho, ?_, ?_, hx.divided_frame hu (mask_czsp _ _ _ _)⟩
  · rw [hx.divided_fcw hu]
    exact flagPV_apply _ _
  · rw [hx.divided_pc, State.fetchExt_pc]

end

/-- Settles O16: the remainder is the high half of the destination, the quotient the low half. -/
theorem divisionGivesQuotientAndRemainder : Obligations.DivisionGivesQuotientAndRemainder := by
  intro s d
  exact ⟨fun src h hd hb hq => pairW_lawful.divides (by decide) hb hq (exec_div h hd),
    fun src h hd hb hq => quadW_lawful.divides (by decide) hb hq (exec_divl h hd)⟩

/-- Settles O17: where there is no quotient, the draw gives what R283 leaves free. -/
theorem badDivisionSetsOverflow : Obligations.BadDivisionSetsOverflow := by
  intro s d
  exact ⟨fun src h hd bad => pairW_lawful.divides_badly bad (exec_div h hd),
    fun src h hd bad => quadW_lawful.divides_badly bad (exec_divl h hd)⟩

/-! ### Extensions (R285 to R287) -/

/-- The sign of `y` in all bits of a high half keeps its value. -/
theorem signFill_toInt (hn : 0 < n) (y : BitVec n) :
    ((if y.msb then BitVec.allOnes n else 0#n) ++ y).toInt = y.toInt := by
  rw [BitVec.toInt_append, BitVec.toInt_eq_msb_cond y]
  cases y.msb with
  | false => simp [hn.ne']
  | true =>
    simp [BitVec.toInt_allOnes, hn, hn.ne']
    omega

theorem exec_exts (hd : evenReg d = true) :
    exec (.exts d) s = .next (s.setReg d (if (s.reg (d + 1)).msb then BitVec.allOnes 16 else 0#16)) :=
  need_of .oddPair _ hd

theorem exec_extsl (hd : quadReg d = true) :
    exec (.extsl d) s = .next (s.setLongReg d (if (s.longReg (d + 2)).msb then BitVec.allOnes 32 else 0#32)) :=
  need_of .badQuad _ hd

theorem extsb_extends (s : State) (d : Reg) : ∃ t, exec (.extsb d) s = .next t ∧
    (t.reg d).toInt = (lowByte (s.reg d)).toInt ∧ WordFrame s t (.reg d) 0 s.rest := by
  obtain ⟨t, ht, result, frame⟩ := wordW_framed.puts (o := exec (.extsb d) s) (p := .reg d) (.refl s) rfl
  exact ⟨t, ht, (congrArg BitVec.toInt result).trans (BitVec.toInt_signExtend_of_le (by decide)), frame⟩

theorem exts_extends (hd : evenReg d = true) : ∃ t, exec (.exts d) s = .next t ∧
    (t.longReg d).toInt = (s.reg (d + 1)).toInt ∧ WordFrame s t (.reg d) 0 s.rest := by
  obtain ⟨t, ht, high, frame⟩ := wordW_framed.puts (p := .reg d) (.refl s) (exec_exts hd)
  have result : t.longReg d = (if (s.reg (d + 1)).msb then BitVec.allOnes 16 else 0#16) ++ s.reg (d + 1) :=
    congrArg₂ (· ++ ·) high (frame.regs _ (by rw [List.mem_singleton]; exact (reg_ne_succ d).symm))
  exact ⟨t, ht, by rw [result]; exact signFill_toInt (by decide) _, frame⟩

theorem extsl_extends (hd : quadReg d = true) : ∃ t, exec (.extsl d) s = .next t ∧
    (t.quadReg d).toInt = (s.longReg (d + 2)).toInt ∧ LongFrame s t (.reg d) 0 s.rest := by
  obtain ⟨t, ht, high, frame⟩ := longW_framed.puts (p := .reg d) (.refl s) (exec_extsl hd)
  have apart : ∀ d : Reg, d + 2 ∉ [d, d + 1] ∧ d + 2 + 1 ∉ [d, d + 1] := by decide
  have low : t.longReg (d + 2) = s.longReg (d + 2) :=
    congrArg₂ (· ++ ·) (frame.regs _ (apart d).1) (frame.regs _ (apart d).2)
  have result : t.quadReg d = (if (s.longReg (d + 2)).msb then BitVec.allOnes 32 else 0#32) ++ s.longReg (d + 2) :=
    congrArg₂ (· ++ ·) high low
  exact ⟨t, ht, by rw [result]; exact signFill_toInt (by decide) _, frame⟩

/-- Settles O18: each writes the sign of a half into the other half, EXTSB within one word. -/
theorem extensionsKeepTheSignedValue : Obligations.ExtensionsKeepTheSignedValue := by
  intro s d
  exact ⟨extsb_extends s d, exts_extends, extsl_extends⟩

end
end Sys2Proof.Machine

namespace Sys2Proof.Machine

open Sys2Proof

/-! ### Decimal adjust (41_arithmetic.md R290 to R292)

After an addition or a subtraction of two bytes of decimal digits, DAB meets a row of R291, where every `DAB_NONBCD`
follows the algorithm of R292; and that algorithm gives the decimal result. -/

section

variable {s t : State} {a b v : Byte} {c h da ci : Bool} {d r : Reg} {k : Nat} {i : Instr} {value : Int}

/-! #### The algorithm over the integers (R292) -/

theorem dab_of_listed (p : DabNonBcd) (listed : dabListed v c h da = true) :
    dab p v c h da = dabAlgorithm v c h da := by
  cases p with
  | algorithm => rfl
  | other => exact if_pos listed

/-- What corrects the two digits, given whether each is to be corrected. -/
def dabCorrection (low high : Bool) : Nat := 6 * low.toNat + 0x60 * high.toNat

theorem dabCorrection_lt : ∀ low high, dabCorrection low high < 2 ^ 8 := by decide

theorem ofNat_dabCorrection : ∀ low high,
    BitVec.ofNat 8 (dabCorrection low high) = (if low then 0x06 else 0) + (if high then 0x60 else 0) := by decide

theorem dabAlgorithm_carry : (dabAlgorithm v c h da).2 = true ↔ c = true ∨ 0x99 < v.toNat := by
  simp [dabAlgorithm]

section

variable {low high : Bool} (hlow : low = true ↔ h = true ∨ 9 < v.toNat % 16)
  (hhigh : high = true ↔ c = true ∨ 0x99 < v.toNat)

include hlow hhigh

theorem dabAlgorithm_value : (dabAlgorithm v c h da).1 =
    if da then v - BitVec.ofNat 8 (dabCorrection low high) else v + BitVec.ofNat 8 (dabCorrection low high) := by
  have hl : low = (h || decide (9 < v.toNat % 16)) := Bool.eq_iff_iff.2 (hlow.trans (by simp))
  have hh : high = (c || decide (0x99 < v.toNat)) := Bool.eq_iff_iff.2 (hhigh.trans (by simp))
  rw [ofNat_dabCorrection, hl, hh]
  rfl

theorem dabAlgorithm_add : (dabAlgorithm v c h false).1.toNat = (v.toNat + dabCorrection low high) % 256 := by
  rw [dabAlgorithm_value hlow hhigh, if_neg Bool.false_ne_true, BitVec.toNat_add, BitVec.toNat_ofNat, Nat.add_mod_mod]

theorem dabAlgorithm_sub : (dabAlgorithm v c h true).1.toNat = (v.toNat + 256 - dabCorrection low high) % 256 := by
  rw [dabAlgorithm_value hlow hhigh, if_pos rfl, BitVec.toNat_sub, BitVec.toNat_ofNat,
    Nat.mod_eq_of_lt (dabCorrection_lt low high)]
  have := dabCorrection_lt low high
  omega

end

/-! #### Decimal digits (R290, R291) -/

/-- One digit of a decimal addition: what is written down and what is carried. -/
theorem exists_digit_carry {m : Nat} (hm : m ≤ 19) : ∃ (k : Bool) (z : Nat), z ≤ 9 ∧ m = z + 10 * k.toNat := by
  by_cases h : m ≤ 9
  · exact ⟨false, m, h, rfl⟩
  · exact ⟨true, m - 10, by omega, by rw [Bool.toNat_true]; omega⟩

/-- One digit of a decimal subtraction: what is written down and what is borrowed. -/
theorem exists_digit_borrow {x m : Nat} (hx : x ≤ 9) (hm : m ≤ 10) :
    ∃ (k : Bool) (z : Nat), z ≤ 9 ∧ x + 10 * k.toNat = m + z := by
  by_cases h : m ≤ x
  · exact ⟨false, x - m, by omega, by rw [Bool.toNat_false]; omega⟩
  · exact ⟨true, x + 10 - m, by omega, by rw [Bool.toNat_true]; omega⟩

theorem bcd_of_digits {lo hi : Nat} (hlo : lo ≤ 9) (hhi : hi ≤ 9) (h : a.toNat = 16 * hi + lo) :
    IsBcd a ∧ bcdValue a = 10 * hi + lo := by
  rw [IsBcd, bcdValue]
  omega

/-- A byte and a carry are the decimal result `value`: its last two digits, and whether it is of no two digits. -/
def IsDecimal (x : Byte × Bool) (value : Int) : Prop :=
  IsBcd x.1 ∧ (bcdValue x.1 : Int) = value % 100 ∧ (x.2 = true ↔ value < 0 ∨ 100 ≤ value)

section

variable (ha : IsBcd a) (hb : IsBcd b)

include ha hb

section

variable (hv : v.toNat = (a.toNat + b.toNat + ci.toNat) % 256)
  (hc : c = true ↔ 2 ^ 8 ≤ a.toNat + b.toNat + ci.toNat)
  (hh : h = true ↔ 16 ≤ a.toNat % 16 + b.toNat % 16 + ci.toNat)

include hv hc hh

/-- In each row of R291 that a sum can meet, its digits are as the row has them. -/
theorem dabListed_add : dabListed v c h false = true := by
  obtain ⟨a0, a1⟩ := ha
  obtain ⟨b0, b1⟩ := hb
  have carry := ci.toNat_le
  cases c <;> cases h <;> simp [dabListed] at hc hh ⊢ <;> omega

/-- The digits are added as by hand: the low one is corrected if it carries, the high one if the sum does. -/
theorem dabAlgorithm_add_isDecimal :
    IsDecimal (dabAlgorithm v c h false) (bcdValue a + bcdValue b + ci.toNat) := by
  obtain ⟨a0, a1⟩ := ha
  obtain ⟨b0, b1⟩ := hb
  have carry := ci.toNat_le
  obtain ⟨low, lo, hlo, lowSum⟩ := exists_digit_carry (m := a.toNat % 16 + b.toNat % 16 + ci.toNat) (by omega)
  have lowCarry := low.toNat_le
  obtain ⟨high, hi, hhi, highSum⟩ := exists_digit_carry (m := a.toNat / 16 + b.toNat / 16 + low.toNat) (by omega)
  have highCarry := high.toNat_le
  have lowFix : low = true ↔ h = true ∨ 9 < v.toNat % 16 := by
    rw [← Bool.toNat_eq_one, hh, hv]
    omega
  have highFix : high = true ↔ c = true ∨ 0x99 < v.toNat := by
    rw [← Bool.toNat_eq_one, hc, hv]
    omega
  have result : (dabAlgorithm v c h false).1.toNat = 16 * hi + lo := by
    rw [dabAlgorithm_add lowFix highFix, dabCorrection, hv]
    omega
  obtain ⟨bcd, digits⟩ := bcd_of_digits hlo hhi result
  refine ⟨bcd, ?_, ?_⟩
  · rw [digits, bcdValue, bcdValue]
    omega
  · rw [dabAlgorithm_carry, ← highFix, ← Bool.toNat_eq_one, bcdValue, bcdValue]
    omega

end

section

variable (hv : (v.toNat : Int) = ((a.toNat : Int) - b.toNat - ci.toNat) % 256)
  (hc : c = true ↔ a.toNat < b.toNat + ci.toNat)
  (hh : h = true ↔ a.toNat % 16 < b.toNat % 16 + ci.toNat)

include hv hc hh

/-- In each row of R291 that a difference can meet, its digits are as the row has them. -/
theorem dabListed_sub : dabListed v c h true = true := by
  obtain ⟨a0, a1⟩ := ha
  obtain ⟨b0, b1⟩ := hb
  have borrow := ci.toNat_le
  cases c <;> cases h <;> simp [dabListed] at hc hh ⊢ <;> omega

/-- The digits are subtracted as by hand: each is corrected if it borrows. -/
theorem dabAlgorithm_sub_isDecimal :
    IsDecimal (dabAlgorithm v c h true) (bcdValue a - bcdValue b - ci.toNat) := by
  obtain ⟨a0, a1⟩ := ha
  obtain ⟨b0, b1⟩ := hb
  have borrow := ci.toNat_le
  obtain ⟨low, lo, hlo, lowDiff⟩ := exists_digit_borrow (m := b.toNat % 16 + ci.toNat) a0 (by omega)
  have lowBorrow := low.toNat_le
  obtain ⟨high, hi, hhi, highDiff⟩ := exists_digit_borrow (m := b.toNat / 16 + low.toNat) a1 (by omega)
  have highBorrow := high.toNat_le
  have lowFix : low = true ↔ h = true ∨ 9 < v.toNat % 16 := by
    rw [← Bool.toNat_eq_one, hh]
    omega
  have highFix : high = true ↔ c = true ∨ 0x99 < v.toNat := by
    rw [← Bool.toNat_eq_one, hc]
    omega
  have result : (dabAlgorithm v c h true).1.toNat = 16 * hi + lo := by
    rw [dabAlgorithm_sub lowFix highFix, dabCorrection]
    omega
  obtain ⟨bcd, digits⟩ := bcd_of_digits hlo hhi result
  refine ⟨bcd, ?_, ?_⟩
  · rw [digits, bcdValue, bcdValue]
    omega
  · rw [dabAlgorithm_carry, ← highFix, ← Bool.toNat_eq_one, bcdValue, bcdValue]
    omega

end
end

/-! #### The instruction (R290) -/

/-- The byte and the flags that DAB makes of the byte `v` in the state `s`. -/
def State.adjust (s : State) (v : Byte) : Byte × FlagUpdate :=
  let x := dab s.cfg.dabNonBcd v (flagC s.fcw) (flagH s.fcw) (flagDA s.fcw)
  (x.1, { c := some x.2, z := some (isZero x.1), s := some x.1.msb })

theorem State.adjust_mask (s : State) (v : Byte) : (s.adjust v).2.mask &&& ~~~flagsCZS = 0 := by
  have mask : ∀ c z s : Bool, ({ c := some c, z := some z, s := some s } : FlagUpdate).mask &&& ~~~flagsCZS = 0 := by
    decide
  exact mask ..

theorem exec_dab (s : State) (d : Reg) :
    exec (.dab d) s = .next (modify byteW (.reg d) s.adjust (s.fetchExt 0)) := rfl

theorem dab_adjusts (s : State) (d : Reg) : ∃ t, exec (.dab d) s = .next t ∧
    (t.byteReg d, flagC t.fcw) = dab s.cfg.dabNonBcd (s.byteReg d) (flagC s.fcw) (flagH s.fcw) (flagDA s.fcw) ∧
    ZeroSign (t.byteReg d) t.fcw ∧ ByteFrame s t (.reg d) flagsCZS s.rest := by
  obtain ⟨t, ht, value, fcw, frame⟩ := byteW_framed.modifies byteW_steady (exec_dab s d) (s.adjust_mask _)
  have result : t.byteReg d = (s.adjust (s.byteReg d)).1 := value
  refine ⟨t, ht, ?_, ?_, frame⟩
  · rw [result, fcw]
    exact Prod.ext rfl (flagC_apply _ _)
  · rw [result, fcw]
    exact ⟨flagZ_apply _ _, flagS_apply _ _⟩

/-- DAB of the register `d` after the instruction `i` gives the decimal result `value`. -/
def Adjusts (s : State) (d : Reg) (i : Instr) (value : Int) : Prop :=
  ∃ t u, exec i s = .next t ∧ exec (.dab d) t = .next u ∧ IsBcd (u.byteReg d) ∧
    (bcdValue (u.byteReg d) : Int) = value % 100 ∧ (flagC u.fcw = true ↔ value < 0 ∨ 100 ≤ value) ∧
    ZeroSign (u.byteReg d) u.fcw ∧ ByteFrame t u (.reg d) flagsCZS t.rest

/-- In a row of R291 it is enough that the algorithm does. -/
theorem Adjusts.of_listed (run : exec i s = .next t) (hda : flagDA t.fcw = da)
    (listed : dabListed (t.byteReg d) (flagC t.fcw) (flagH t.fcw) da = true)
    (decimal : IsDecimal (dabAlgorithm (t.byteReg d) (flagC t.fcw) (flagH t.fcw) da) value) : Adjusts s d i value := by
  obtain ⟨u, hu, result, flags, frame⟩ := dab_adjusts t d
  rw [hda, dab_of_listed _ listed] at result
  rw [← result] at decimal
  obtain ⟨bcd, digits, carry⟩ := decimal
  exact ⟨t, u, run, hu, bcd, digits, carry, flags, frame⟩

theorem addC_toNat (a b : Byte) (ci : Bool) : (addC a b ci).r.toNat = (a.toNat + b.toNat + ci.toNat) % 256 :=
  BitVec.toNat_ofNat ..

theorem subC_toNat (a b : Byte) (ci : Bool) :
    ((subC a b ci).r.toNat : Int) = ((a.toNat : Int) - b.toNat - ci.toNat) % 256 := by
  rw [subC, BitVec.toNat_ofInt]
  exact Int.toNat_of_nonneg (Int.emod_nonneg _ (by decide))

section

variable (ha : IsBcd (s.byteReg d)) (hb : IsBcd (s.byteReg r))

include ha hb

theorem sum_adjusts (hx : exec i s = .next (binary byteW d (.reg r) (addOpB ci) (s.fetchExt k)))
    (hvalue : (bcdValue (s.byteReg d) + bcdValue (s.byteReg r) + ci.toNat : Int) = value) : Adjusts s d i value := by
  obtain ⟨t, run, sum, ⟨-, carry, -⟩, ⟨halfCarry, hda⟩, -⟩ := byte_adds rfl hx
  have hv := (congrArg BitVec.toNat sum).trans (addC_toNat ..)
  exact .of_listed run hda (dabListed_add ha hb hv carry halfCarry)
    (hvalue ▸ dabAlgorithm_add_isDecimal ha hb hv carry halfCarry)

theorem difference_adjusts (hx : exec i s = .next (binary byteW d (.reg r) (subOpB ci) (s.fetchExt k)))
    (hvalue : (bcdValue (s.byteReg d) - bcdValue (s.byteReg r) - ci.toNat : Int) = value) : Adjusts s d i value := by
  obtain ⟨t, run, difference, ⟨-, borrow, -⟩, ⟨halfBorrow, hda⟩, -⟩ := byte_subtracts rfl hx
  have hv := (congrArg (fun x : Byte => (x.toNat : Int)) difference).trans (subC_toNat ..)
  exact .of_listed run hda (dabListed_sub ha hb hv borrow halfBorrow)
    (hvalue ▸ dabAlgorithm_sub_isDecimal ha hb hv borrow halfBorrow)

end

/-- Settles O19: the flags that O10 and O11 give a byte operation are those by which DAB corrects its digits. -/
theorem decimalAdjustCorrectsBcd : Obligations.DecimalAdjustCorrectsBcd := by
  refine ⟨fun s d r ha hb => ⟨?_, ?_, ?_, ?_⟩, fun s d => ?_⟩
  · exact sum_adjusts (i := .addb d (.reg r)) (k := 0) ha hb rfl (Int.add_zero _)
  · exact sum_adjusts (i := .adcb d r) (k := 0) ha hb rfl rfl
  · exact difference_adjusts (i := .subb d (.reg r)) (k := 0) ha hb rfl (Int.sub_zero _)
  · exact difference_adjusts (i := .sbcb d r) (k := 0) ha hb rfl rfl
  · obtain ⟨t, ht, -, flags, frame⟩ := dab_adjusts s d
    exact ⟨t, ht, flags, frame⟩

end
end Sys2Proof.Machine
